-- ==== Sys2Proof/Word.lean ====
section
/-! DEFINITION. The word types of `00_scope.md` R12. -/

namespace Sys2Proof

/-- A register, a result word, a bus address or a beat's data: 32 bits (R12). -/
abbrev Word := BitVec 32

/-- A sample, or one byte of the counter store: 8 bits (R8, R53). -/
abbrev Byte := BitVec 8

/-- The pixel cursor and ERR_INDEX: 64 bits (R12). -/
abbrev DWord := BitVec 64

end Sys2Proof
end

