-- ==== Sys2Proof/Config.lean ====
section
/-! DEFINITION. What an implementation fixes (`00_scope.md` R9) and the free values of the model. -/

namespace Sys2Proof

/-- RESULT_BASE, the byte address of result word 0 (R9, R54). -/
def Config.resultBase : Nat := 0x01000000

/-- RES_WORDS, the words of the result window and of the counter store (R9, R38). -/
def Config.resWords (wMax : Nat) : Nat := max 65536 (768 * wMax)

/-- The largest W_MAX the result window leaves room for (R9, conflict C12). -/
def Config.wMaxLimit : Nat := 1392640

/-- DESIGN CHOICE, log entry 1: W_MAX of the block that `State.reset` describes, the value of every example of the
spec. W_MAX is an OPEN parameter (R9); every statement quantifies over the state's `caps` instead.
Unsafe for a claim about `State.reset` alone. -/
def Config.wMaxAtReset : Word := 4096

/-- A free value, log entry 2: the byte at a byte address of the counter store where R40 calls the contents
unspecified. The first argument tells apart the contents left by different events. Safe. -/
opaque Config.freeByte : Nat → Nat → Byte

/-- A free value, log entry 6: which of the enabled events comes next where `State.schedule` says nothing
(R60: "any order the handshakes allow"). Safe. -/
opaque Config.freeChoice : Nat → Nat

end Sys2Proof
end

