-- ==== Sys2Proof/Syntax.lean ====
section
/-! DEFINITION. The events of the block as data: the formats REGOP and BEAT (`30_encoding.md` R65, R66, R73) and the
25 operations of R76, one constructor of `Instr` for each row of `opcode_table.json`. -/

namespace Sys2Proof

/-- The six states of the sequencer (`10_state.md` R22). -/
inductive Seq where
  | idle
  | clear
  | run
  | drain
  | done
  | error
deriving DecidableEq, Repr

/-- Format REGOP: one register-bus request (R66). -/
structure BusReq where
  /-- W, `reg_req_write`. -/
  write : Bool
  /-- ADDR, a byte address. -/
  addr : Word
  /-- WDATA, ignored when W = 0. -/
  wdata : Word
deriving DecidableEq, Repr

/-- Format BEAT: one pixel-stream beat (R73). -/
structure Beat where
  /-- `s_data`. -/
  data : Word
  /-- `s_last`. -/
  last : Bool
deriving DecidableEq, Repr

/-- The four samples of a beat (`20_memory.md` R52). No rule reads `a` (R72). -/
structure Pixel where
  r : Byte
  g : Byte
  b : Byte
  a : Byte
deriving DecidableEq, Repr

/-- What the decoder is given: a bus request, or a beat together with the two pieces of state that select its
operation (R65, R74). -/
inductive Event where
  | regop (q : BusReq)
  | beat (seq : Seq) (actScope : BitVec 4) (b : Beat)
deriving DecidableEq, Repr

/-- Why an event is no operation. -/
inductive Reject where
  /-- A beat offered in IDLE, CLEAR, DONE or ERROR: it is not accepted and waits with the source (R44, R74). -/
  | beatNotAccepted
  /-- A beat in RUN with an ACT_SCOPE that is not 1 to 5; R74 says that this does not occur. -/
  | noOperationSelected
deriving DecidableEq, Repr

/-- The operations of R76. `irqEn` is WDATA[2] and `scope` is WDATA[7:4] of a CTRL write (R68); `off` is the register
word offset ADDR[7:2]; `i` is the result word index (R72); `p` and `last` are the beat (R73). Bits that the spec says
are ignored are no operand. -/
inductive Instr where
  /-- CTRL write with no command (R107). -/
  | cfg (irqEn : Bool) (scope : BitVec 4)
  /-- START with SCOPE = 1 (R108). -/
  | startHistogram (irqEn : Bool)
  /-- START with SCOPE = 2 (R108). -/
  | startWaveformLuma (irqEn : Bool)
  /-- START with SCOPE = 3 (R108). -/
  | startWaveformParade (irqEn : Bool)
  /-- START with SCOPE = 4 (R108). -/
  | startVectorscopeA (irqEn : Bool)
  /-- START with SCOPE = 5 (R108). -/
  | startVectorscopeB (irqEn : Bool)
  /-- START with SCOPE = 0 (R109). -/
  | startInvalidScope0 (irqEn : Bool)
  /-- START with SCOPE 6 or 7 (R109). -/
  | startInvalidScope6_7 (irqEn : Bool) (scope : BitVec 4)
  /-- START with SCOPE 8 to 15 (R109). -/
  | startInvalidScope8_15 (irqEn : Bool) (scope : BitVec 4)
  /-- CTRL write with ABORT = 1; `start` is WDATA[0], which ABORT overrides (R111). -/
  | abort (start irqEn : Bool) (scope : BitVec 4)
  /-- STATUS write: WDATA[8], WDATA[9], WDATA[10] (R70, R112). -/
  | wrStatus (clrDone clrErr clrIgnored : Bool)
  /-- WIDTH write (R71, R113). -/
  | wrWidth (wd : Word)
  /-- HEIGHT write (R71, R113). -/
  | wrHeight (wd : Word)
  /-- Write of a read-only or reserved register (R114). -/
  | wrIgnored (off : BitVec 6)
  /-- Register read (R115). -/
  | rdReg (off : BitVec 6)
  /-- Read of the result window (R127, R128). -/
  | rdResult (i : BitVec 30)
  /-- Write of the result window (R129). -/
  | wrResult (i : BitVec 30)
  /-- Access with ADDR[1:0] ≠ 0 (R55 case 1). -/
  | buserrMisaligned (write : Bool) (addr : Word)
  /-- Aligned access of an unmapped address (R55 case 2). -/
  | buserrUnmapped (write : Bool) (addr : Word)
  /-- Beat in RUN, ACT_SCOPE = 1 (R81). -/
  | pixHistogram (p : Pixel) (last : Bool)
  /-- Beat in RUN, ACT_SCOPE = 2 (R89). -/
  | pixWaveformLuma (p : Pixel) (last : Bool)
  /-- Beat in RUN, ACT_SCOPE = 3 (R90). -/
  | pixWaveformParade (p : Pixel) (last : Bool)
  /-- Beat in RUN, ACT_SCOPE = 4 (R97). -/
  | pixVectorscopeA (p : Pixel) (last : Bool)
  /-- Beat in RUN, ACT_SCOPE = 5 (R100). -/
  | pixVectorscopeB (p : Pixel) (last : Bool)
  /-- Beat in DRAIN (R121). -/
  | pixDrain (p : Pixel) (last : Bool)
deriving DecidableEq, Repr

/-- What the decoder answers. -/
inductive Decoded where
  | ok (i : Instr)
  | reject (r : Reject)
deriving DecidableEq, Repr

end Sys2Proof
end

