-- ==== Sys2Proof/WellFormed.lean ====
section
/-! DEFINITION. Which terms of `Instr` stand for an event of `30_encoding.md` R76. -/

namespace Sys2Proof

/-- The byte address lies in the result window (`20_memory.md` R54). -/
def inResultWindow (wMax : Nat) (a : Nat) : Bool :=
  decide (Config.resultBase ≤ a) && decide (a < Config.resultBase + 4 * Config.resWords wMax)

/-- The operands of an operation are those its row of R76 admits, on a block with this W_MAX. -/
def Instr.wellFormed (wMax : Nat) : Instr → Bool
  | .cfg _ _ => true
  | .startHistogram _ => true
  | .startWaveformLuma _ => true
  | .startWaveformParade _ => true
  | .startVectorscopeA _ => true
  | .startVectorscopeB _ => true
  | .startInvalidScope0 _ => true
  | .startInvalidScope6_7 _ scope => scope == 6 || scope == 7
  | .startInvalidScope8_15 _ scope => decide (8 ≤ scope.toNat)
  | .abort _ _ _ => true
  | .wrStatus _ _ _ => true
  | .wrWidth _ => true
  | .wrHeight _ => true
  | .wrIgnored off => off == 0 || off == 1 || decide (6 ≤ off.toNat)
  | .rdReg _ => true
  | .rdResult i => decide (i.toNat < Config.resWords wMax)
  | .wrResult i => decide (i.toNat < Config.resWords wMax)
  | .buserrMisaligned _ addr => decide (addr.toNat % 4 ≠ 0)
  | .buserrUnmapped _ addr =>
    decide (addr.toNat % 4 = 0) && decide (256 ≤ addr.toNat) && !inResultWindow wMax addr.toNat
  | .pixHistogram _ _ => true
  | .pixWaveformLuma _ _ => true
  | .pixWaveformParade _ _ => true
  | .pixVectorscopeA _ _ => true
  | .pixVectorscopeB _ _ => true
  | .pixDrain _ _ => true

end Sys2Proof
end

