-- ==== Sys2Proof/Decode.lean ====
section
/-! DEFINITION. The decoder of `30_encoding.md` (R65 to R75), the encoder written from the same layouts, the rows of
`opcode_table.json`, and the flat numbering of an event's bits (log entry 12). -/

namespace Sys2Proof

/-! ### Fields -/

/-- SCOPE, bits 7:4 of a CMD word (R68). -/
def cmdScope (wd : Word) : BitVec 4 := wd.extractLsb' 4 4

/-- The samples of a beat: R in bits 7:0, G in 15:8, B in 23:16, A in 31:24 (`20_memory.md` R52). -/
def pixelOfData (d : Word) : Pixel :=
  { r := d.extractLsb' 0 8, g := d.extractLsb' 8 8, b := d.extractLsb' 16 8, a := d.extractLsb' 24 8 }

/-- The word offset ADDR[7:2] of a register access (R67 case 2). -/
def regOffset (addr : Word) : BitVec 6 := addr.extractLsb' 2 6

/-- The result word index `(ADDR - RESULT_BASE) >> 2` (R72). -/
def resultIndex (addr : Word) : BitVec 30 := BitVec.ofNat 30 ((addr.toNat - Config.resultBase) / 4)

/-! ### Decoder -/

/-- A START command by its SCOPE (R75). -/
def decodeStart (irqEn : Bool) (scope : BitVec 4) : Instr :=
  match scope.toNat with
  | 0 => .startInvalidScope0 irqEn
  | 1 => .startHistogram irqEn
  | 2 => .startWaveformLuma irqEn
  | 3 => .startWaveformParade irqEn
  | 4 => .startVectorscopeA irqEn
  | 5 => .startVectorscopeB irqEn
  | 6 => .startInvalidScope6_7 irqEn scope
  | 7 => .startInvalidScope6_7 irqEn scope
  | _ => .startInvalidScope8_15 irqEn scope

/-- CMD decode: ABORT before START before no command (R69). Bits 3 and 31:8 are ignored (R68). -/
def decodeCmd (wd : Word) : Instr :=
  if wd.getLsbD 1 then .abort (wd.getLsbD 0) (wd.getLsbD 2) (cmdScope wd)
  else if wd.getLsbD 0 then decodeStart (wd.getLsbD 2) (cmdScope wd)
  else .cfg (wd.getLsbD 2) (cmdScope wd)

/-- A write to the register at a word offset (`43_command_interface.md` R106). -/
def decodeRegWrite (off : BitVec 6) (wd : Word) : Instr :=
  match off.toNat with
  | 2 => decodeCmd wd
  | 3 => .wrStatus (wd.getLsbD 8) (wd.getLsbD 9) (wd.getLsbD 10)
  | 4 => .wrWidth wd
  | 5 => .wrHeight wd
  | _ => .wrIgnored off

/-- Address decode of a REGOP, the four cases of R67 in their order. -/
def decodeReq (wMax : Nat) (q : BusReq) : Instr :=
  if q.addr.extractLsb' 0 2 ≠ 0 then .buserrMisaligned q.write q.addr
  else if q.addr.extractLsb' 8 24 = 0 then
    if q.write then decodeRegWrite (regOffset q.addr) q.wdata else .rdReg (regOffset q.addr)
  else if inResultWindow wMax q.addr.toNat then
    if q.write then .wrResult (resultIndex q.addr) else .rdResult (resultIndex q.addr)
  else .buserrUnmapped q.write q.addr

/-- The operation of a beat in RUN (R74). -/
def decodeRunBeat (actScope : BitVec 4) (p : Pixel) (last : Bool) : Decoded :=
  match actScope.toNat with
  | 1 => .ok (.pixHistogram p last)
  | 2 => .ok (.pixWaveformLuma p last)
  | 3 => .ok (.pixWaveformParade p last)
  | 4 => .ok (.pixVectorscopeA p last)
  | 5 => .ok (.pixVectorscopeB p last)
  | _ => .reject .noOperationSelected

/-- Per-beat operation selection from STATE and ACT_SCOPE (R74). -/
def decodeBeat (seq : Seq) (actScope : BitVec 4) (b : Beat) : Decoded :=
  match seq with
  | .run => decodeRunBeat actScope (pixelOfData b.data) b.last
  | .drain => .ok (.pixDrain (pixelOfData b.data) b.last)
  | .idle => .reject .beatNotAccepted
  | .clear => .reject .beatNotAccepted
  | .done => .reject .beatNotAccepted
  | .error => .reject .beatNotAccepted

/-- The decoder: total on every event (R65). -/
def decode (wMax : Nat) : Event → Decoded
  | .regop q => .ok (decodeReq wMax q)
  | .beat seq actScope b => decodeBeat seq actScope b

/-! ### Encoder -/

/-- A CMD word with its reserved bits 0 (R68). -/
def cmdWord (start abort irqEn : Bool) (scope : BitVec 4) : Word :=
  (0 : BitVec 24) ++ scope ++ (0 : BitVec 1) ++ BitVec.ofBool irqEn ++ BitVec.ofBool abort ++ BitVec.ofBool start

/-- A STATUS write word with its ignored bits 0 (R70). -/
def statusWriteWord (clrDone clrErr clrIgnored : Bool) : Word :=
  (0 : BitVec 21) ++ BitVec.ofBool clrIgnored ++ BitVec.ofBool clrErr ++ BitVec.ofBool clrDone ++ (0 : BitVec 8)

/-- The byte address of a register. -/
def regAddr (off : BitVec 6) : Word := (0 : BitVec 24) ++ off ++ (0 : BitVec 2)

/-- The byte address RESULT_BASE + 4i of a result word (`44_result_readout.md` R126). -/
def windowAddr (i : BitVec 30) : Word := BitVec.ofNat 32 (Config.resultBase + 4 * i.toNat)

/-- `s_data = {A, B, G, R}` (R52). -/
def pixelData (p : Pixel) : Word := p.a ++ p.b ++ p.g ++ p.r

/-- A register write request. -/
def regWrite (off : BitVec 6) (wd : Word) : Event := .regop { write := true, addr := regAddr off, wdata := wd }

/-- A read request; its write data is ignored (R66) and encoded as 0. -/
def readAt (addr : Word) : Event := .regop { write := false, addr := addr, wdata := 0 }

/-- The event of an operation, every ignored bit 0. -/
def encode : Instr → Event
  | .cfg irqEn scope => regWrite 2 (cmdWord false false irqEn scope)
  | .startHistogram irqEn => regWrite 2 (cmdWord true false irqEn 1)
  | .startWaveformLuma irqEn => regWrite 2 (cmdWord true false irqEn 2)
  | .startWaveformParade irqEn => regWrite 2 (cmdWord true false irqEn 3)
  | .startVectorscopeA irqEn => regWrite 2 (cmdWord true false irqEn 4)
  | .startVectorscopeB irqEn => regWrite 2 (cmdWord true false irqEn 5)
  | .startInvalidScope0 irqEn => regWrite 2 (cmdWord true false irqEn 0)
  | .startInvalidScope6_7 irqEn scope => regWrite 2 (cmdWord true false irqEn scope)
  | .startInvalidScope8_15 irqEn scope => regWrite 2 (cmdWord true false irqEn scope)
  | .abort start irqEn scope => regWrite 2 (cmdWord start true irqEn scope)
  | .wrStatus clrDone clrErr clrIgnored => regWrite 3 (statusWriteWord clrDone clrErr clrIgnored)
  | .wrWidth wd => regWrite 4 wd
  | .wrHeight wd => regWrite 5 wd
  | .wrIgnored off => regWrite off 0
  | .rdReg off => readAt (regAddr off)
  | .rdResult i => readAt (windowAddr i)
  | .wrResult i => .regop { write := true, addr := windowAddr i, wdata := 0 }
  | .buserrMisaligned write addr => .regop { write := write, addr := addr, wdata := 0 }
  | .buserrUnmapped write addr => .regop { write := write, addr := addr, wdata := 0 }
  | .pixHistogram p last => .beat .run 1 { data := pixelData p, last := last }
  | .pixWaveformLuma p last => .beat .run 2 { data := pixelData p, last := last }
  | .pixWaveformParade p last => .beat .run 3 { data := pixelData p, last := last }
  | .pixVectorscopeA p last => .beat .run 4 { data := pixelData p, last := last }
  | .pixVectorscopeB p last => .beat .run 5 { data := pixelData p, last := last }
  | .pixDrain p last => .beat .drain 0 { data := pixelData p, last := last }

/-! ### The rows of `opcode_table.json` -/

/-- The match and mask of a row: for REGOP the fields W (`none` where the mask is 0), ADDR and WDATA, for BEAT the
fields STATE and ACT_SCOPE. A row's `condition` is no part of it. -/
inductive RowPattern where
  | regop (w : Option Bool) (addr addrMask wdata wdataMask : Word)
  | beat (seq : Seq) (actScope scopeMask : BitVec 4)
deriving DecidableEq, Repr

/-- `field & mask == match` for every field of the row's format (R76). -/
def RowPattern.fits : RowPattern → Event → Bool
  | .regop w addr addrMask wdata wdataMask, .regop q =>
    (w == none || w == some q.write) && (q.addr &&& addrMask == addr) && (q.wdata &&& wdataMask == wdata)
  | .beat seq actScope scopeMask, .beat seq' actScope' _ => seq == seq' && (actScope' &&& scopeMask == actScope)
  | .regop _ _ _ _ _, .beat _ _ _ => false
  | .beat _ _ _, .regop _ => false

/-- The row that selects a CTRL write by its data (R76). -/
def ctrlRow (wdata wdataMask : Word) : RowPattern := .regop (some true) 0x008 0xFFFFFFFF wdata wdataMask

/-- The row of `opcode_table.json` an operation stands for. -/
def Instr.row : Instr → RowPattern
  | .cfg _ _ => ctrlRow 0x00 0x03
  | .startHistogram _ => ctrlRow 0x11 0xF3
  | .startWaveformLuma _ => ctrlRow 0x21 0xF3
  | .startWaveformParade _ => ctrlRow 0x31 0xF3
  | .startVectorscopeA _ => ctrlRow 0x41 0xF3
  | .startVectorscopeB _ => ctrlRow 0x51 0xF3
  | .startInvalidScope0 _ => ctrlRow 0x01 0xF3
  | .startInvalidScope6_7 _ _ => ctrlRow 0x61 0xE3
  | .startInvalidScope8_15 _ _ => ctrlRow 0x81 0x83
  | .abort _ _ _ => ctrlRow 0x02 0x02
  | .wrStatus _ _ _ => .regop (some true) 0x00C 0xFFFFFFFF 0 0
  | .wrWidth _ => .regop (some true) 0x010 0xFFFFFFFF 0 0
  | .wrHeight _ => .regop (some true) 0x014 0xFFFFFFFF 0 0
  | .wrIgnored _ => .regop (some true) 0 0xFFFFFF03 0 0
  | .rdReg _ => .regop (some false) 0 0xFFFFFF03 0 0
  | .rdResult _ => .regop (some false) 0 0x00000003 0 0
  | .wrResult _ => .regop (some true) 0 0x00000003 0 0
  | .buserrMisaligned _ _ => .regop none 0 0 0 0
  | .buserrUnmapped _ _ => .regop none 0 0x00000003 0 0
  | .pixHistogram _ _ => .beat .run 1 0xF
  | .pixWaveformLuma _ _ => .beat .run 2 0xF
  | .pixWaveformParade _ _ => .beat .run 3 0xF
  | .pixVectorscopeA _ _ => .beat .run 4 0xF
  | .pixVectorscopeB _ _ => .beat .run 5 0xF
  | .pixDrain _ _ => .beat .drain 0 0x0

/-! ### The bits of an event as one number

DESIGN CHOICE, log entry 12: the table gives no flat numbering, so this one is the model's. A REGOP is W in bit 0,
ADDR in bits 32:1, WDATA in bits 64:33 (9 bytes); a BEAT is s_data in bits 31:0, s_last in bit 32, and its two
selecting fields STATE in bits 35:33 and ACT_SCOPE in bits 39:36 (5 bytes). -/

/-- STATUS.STATE, the code of a sequencer state (`10_state.md` R22). -/
def Seq.code : Seq → BitVec 3
  | .idle => 0
  | .clear => 1
  | .run => 2
  | .drain => 3
  | .done => 4
  | .error => 5

/-- The sequencer state of a code; 6 and 7 never occur (R22). -/
def seqOfCode (n : Nat) : Option Seq :=
  match n with
  | 0 => some .idle
  | 1 => some .clear
  | 2 => some .run
  | 3 => some .drain
  | 4 => some .done
  | 5 => some .error
  | _ => none

/-- The event whose bits are `w`: a BEAT where the row has at most 40 bits, else a REGOP. -/
def eventOfTableWord (nbits w : Nat) : Option Event :=
  if nbits ≤ 40 then
    match seqOfCode (w / 2 ^ 33 % 8) with
    | some seq =>
      some (.beat seq (BitVec.ofNat 4 (w / 2 ^ 36)) { data := BitVec.ofNat 32 w, last := decide (w / 2 ^ 32 % 2 = 1) })
    | none => none
  else
    some (.regop { write := decide (w % 2 = 1), addr := BitVec.ofNat 32 (w / 2), wdata := BitVec.ofNat 32 (w / 2 ^ 33) })

/-- How many bits an event's number has. -/
def tableBits : Event → Nat
  | .regop _ => 72
  | .beat _ _ _ => 40

/-- An event's number. -/
def tableWord : Event → Nat
  | .regop q => q.write.toNat + 2 * q.addr.toNat + 2 ^ 33 * q.wdata.toNat
  | .beat seq actScope b => b.data.toNat + 2 ^ 32 * b.last.toNat + 2 ^ 33 * seq.code.toNat + 2 ^ 36 * actScope.toNat

/-- The operation the decoder reads from an event's number, on a block with the W_MAX of `State.reset`. -/
def decodeTableWord (nbits w : Nat) : Option Instr :=
  match eventOfTableWord nbits w with
  | some e =>
    match decode Config.wMaxAtReset.toNat e with
    | .ok i => some i
    | .reject _ => none
  | none => none

end Sys2Proof
end

