-- ==== Sys2Proof/Machine/State.lean ====
section
/-! DEFINITION. The machine's state as plain data (`10_state.md`), its reset (`70_reset_and_hazards.md` R151), and the
ways a step can stop. -/

namespace Sys2Proof.Machine

/-- The counter store CNT (R38) as bytes: byte `4i + j` holds bits `8j+7 : 8j` of word i (`20_memory.md` R53).
Canonical form: addresses strictly rising, every address below `4 * cleared`, no byte 0. -/
structure Memory where
  /-- The bytes that differ from what an unlisted address reads as. -/
  cells : List Host.Cell
  /-- Words below this hold a specified count: the last successful START zeroed them (R40). All other words are
  unspecified. -/
  cleared : Nat
  /-- Which free contents the unspecified words have (log entry 2): every event that makes words unspecified
  advances it. -/
  epoch : Nat
deriving DecidableEq, Repr

/-- One response of the register bus with `reg_rsp_valid = 1` (`20_memory.md` R47, R50). -/
structure Response where
  /-- `reg_rsp_rdata`: 0 for a write or an error. -/
  rdata : Word
  /-- `reg_rsp_err`. -/
  err : Bool
deriving DecidableEq, Repr

/-- The agent whose event comes next (`00_scope.md` R13). -/
inductive Turn where
  /-- The host's next bus transaction (R50). -/
  | bus
  /-- The source's next beat, if the block accepts it (R51). -/
  | beat
  /-- The internal step that ends CLEAR (R116). -/
  | clear
  /-- The reset line (R151); `abandon` says that a request was taken and not yet answered, and is lost (R152). -/
  | reset (abandon : Bool)
  /-- The host breaks the bus handshake (R160 duty 5, U5). -/
  | hostBreach
  /-- The source breaks the stream handshake (R160 duty 4, U4). -/
  | sourceBreach
deriving DecidableEq, Repr

/-- The errors a request can end in (`60_exceptions.md` R134). -/
inductive BlockError where
  /-- START with a SCOPE that is not 1 to 5. -/
  | invalidScopeType (scope : BitVec 4)
  /-- START with ACT_WIDTH = 0. -/
  | zeroWidth
  /-- START with ACT_HEIGHT = 0. -/
  | zeroHeight
  /-- A beat with s_last = 1 before the last pixel. -/
  | shortFrame
  /-- The last pixel's beat with s_last = 0. -/
  | longFrame
  /-- START of a waveform wider than W_MAX. -/
  | widthExceedsCapacity
  /-- An increment of a counter that holds 2^32 - 1. -/
  | counterOverflow
deriving DecidableEq, Repr

/-- Every piece of state the spec gives the block (R20, R46), then the inputs its agents still hold. -/
structure State where
  /-- STATE (R22). -/
  seq : Seq
  /-- CTRL.IRQ_EN (R28). -/
  irqEn : Bool
  /-- CTRL.SCOPE (R28). -/
  scope : BitVec 4
  /-- STATUS.DONE_IRQ (R29). -/
  doneIrq : Bool
  /-- STATUS.ERR_IRQ (R29). -/
  errIrq : Bool
  /-- STATUS.START_IGNORED (R29). -/
  startIgnored : Bool
  /-- WIDTH (R30). -/
  width : Word
  /-- HEIGHT (R30). -/
  height : Word
  /-- ERR.CODE (R31). -/
  errCode : BitVec 4
  /-- ERR.DETAIL (R31). -/
  errDetail : BitVec 8
  /-- ERR_INDEX (R32). -/
  errIndex : DWord
  /-- The pixel cursor, PIXCNT (R21, R33). -/
  k : DWord
  /-- ACT_SCOPE (R34). -/
  actScope : BitVec 4
  /-- ACT_WIDTH (R35). -/
  actWidth : Word
  /-- ACT_HEIGHT (R35). -/
  actHeight : Word
  /-- RESULT_LEN (R36). -/
  resultLen : Word
  /-- CAPS = W_MAX, constant on one block (R27). -/
  caps : Word
  /-- The counter store (R38). -/
  cnt : Memory
  /-- The bus response of the latest event, if it was a transaction (R50). -/
  rsp : Option Response
  /-- The model's own: the transactions the host has still to issue, in order (R60). -/
  hostReqs : List BusReq
  /-- The model's own: the beats the source has still to deliver, in order (R51). -/
  source : List Beat
  /-- The model's own: the order of the coming events (R13). -/
  schedule : List Turn
  /-- The model's own: how often the free choice of the next event was asked (log entry 6). -/
  freeTurns : Nat
deriving DecidableEq, Repr

/-- The state of R46 and R151 on a block with the given W_MAX, with no input placed. -/
def State.resetWith (wMax : Word) : State where
  seq := .idle
  irqEn := false
  scope := 0
  doneIrq := false
  errIrq := false
  startIgnored := false
  width := 0
  height := 0
  errCode := 0
  errDetail := 0
  errIndex := 0
  k := 0
  actScope := 0
  actWidth := 0
  actHeight := 0
  resultLen := 0
  caps := wMax
  cnt := { cells := [], cleared := 0, epoch := 0 }
  rsp := none
  hostReqs := []
  source := []
  schedule := []
  freeTurns := 0

/-- The machine right after reset (R151). W_MAX is the model's choice (DESIGN CHOICE, log entry 1). -/
def State.reset : State := State.resetWith Config.wMaxAtReset

/-- No event of this block stops it with a fault: "The block never halts and has no halt state" (R163). A bus error is
a response and a block error is a state; both are next states (log entry 21). -/
inductive Fault where
deriving DecidableEq, Repr

/-- The reasons a step is refused. -/
inductive Refusal where
  /-- Raised by an arm of `exec` whose operation has no meaning yet; none has. Safe. -/
  | notModelled (mnemonic : String)
  /-- Raised by the step where a beat is offered in RUN and ACT_SCOPE is not 1 to 5, which R74 says does not occur.
  Safe: no state that a run reaches raises it. -/
  | beatSelectsNothing
  /-- Raised by the step where the host breaks the bus handshake: "undefined bus behaviour" (R160 duty 5, U5).
  Safe: the run is treated as failed, as R160 allows. -/
  | hostHandshakeBroken
  /-- Raised by the step where the source breaks the stream handshake: "the beat's value is not defined"
  (R160 duty 4, U4). Safe: the run is treated as failed, as R160 allows. -/
  | sourceHandshakeBroken
deriving DecidableEq, Repr

end Sys2Proof.Machine
end

