-- ==== Sys2Proof/Machine/Flags.lean ====
section
/-! DEFINITION. The status flags, the outputs computed from them, and the words in which software reads them
(`10_state.md` R22, R28, R29, R31, R41, R44). -/

namespace Sys2Proof.Machine

/-- BUSY is 1 exactly in CLEAR, RUN and DRAIN (R22). -/
def seqBusy : Seq → Bool
  | .idle => false
  | .clear => true
  | .run => true
  | .drain => true
  | .done => false
  | .error => false

/-- STATUS.BUSY (R29). -/
def State.busy (s : State) : Bool := seqBusy s.seq

/-- The interrupt output (R41, R141). -/
def State.irq (s : State) : Bool := s.irqEn && (s.doneIrq || s.errIrq)

/-- The states in which `s_ready` may be 1 (R44). -/
def seqAccepts : Seq → Bool
  | .run => true
  | .drain => true
  | .idle => false
  | .clear => false
  | .done => false
  | .error => false

/-- Whether the block may accept a beat (R44). -/
def State.mayAccept (s : State) : Bool := seqAccepts s.seq

/-- What a read of CTRL returns: `(SCOPE << 4) | (IRQ_EN << 2)` (R28, R115). -/
def ctrlWord (irqEn : Bool) (scope : BitVec 4) : Word :=
  (scope.setWidth 32 <<< 4) ||| ((BitVec.ofBool irqEn).setWidth 32 <<< 2)

/-- What a read of STATUS returns (R29, R115). -/
def statusWord (seq : Seq) (doneIrq errIrq startIgnored : Bool) : Word :=
  seq.code.setWidth 32 ||| ((BitVec.ofBool (seqBusy seq)).setWidth 32 <<< 3)
    ||| ((BitVec.ofBool doneIrq).setWidth 32 <<< 8) ||| ((BitVec.ofBool errIrq).setWidth 32 <<< 9)
    ||| ((BitVec.ofBool startIgnored).setWidth 32 <<< 10)

/-- What a read of ERR returns: `CODE | (DETAIL << 8)` (R31, R115). -/
def errWord (code : BitVec 4) (detail : BitVec 8) : Word := code.setWidth 32 ||| (detail.setWidth 32 <<< 8)

/-- W1C: writing 1 clears the bit, writing 0 leaves it (R25). -/
def w1c (bit clear : Bool) : Bool := bit && !clear

/-- ERR.CODE of an error (`60_exceptions.md` R134). -/
def BlockError.code : BlockError → BitVec 4
  | .invalidScopeType _ => 1
  | .zeroWidth => 2
  | .zeroHeight => 2
  | .shortFrame => 2
  | .longFrame => 2
  | .widthExceedsCapacity => 3
  | .counterOverflow => 3

/-- ERR.DETAIL of an error (R134). -/
def BlockError.detail : BlockError → BitVec 8
  | .invalidScopeType scope => scope.setWidth 8
  | .zeroWidth => 0x01
  | .zeroHeight => 0x02
  | .shortFrame => 0x03
  | .longFrame => 0x04
  | .widthExceedsCapacity => 0x01
  | .counterOverflow => 0x02

end Sys2Proof.Machine
end

