-- ==== Sys2Proof/Machine/Operands.lean ====
section
/-! DEFINITION. The operands the rules compute: frame length, column, levels, chroma coordinates and the increment
list of one beat (`40_histogram.md`, `41_waveform.md`, `42_vectorscope.md`). All arithmetic is on exact integers
(`00_scope.md` R10). -/

namespace Sys2Proof.Machine

/-! ### Notation of R11 -/

/-- `fdiv(a, b)` for b > 0: the floor of the quotient. -/
def fdiv (a b : Int) : Int := a / b

/-- A sample as an integer. -/
def sample (v : Byte) : Int := (v.toNat : Int)

/-! ### Frame geometry -/

/-- N = ACT_WIDTH × ACT_HEIGHT, exact (R35, R72). -/
def frameLen (w h : Word) : Nat := w.toNat * h.toNat

/-- N of the current frame. -/
def State.n (s : State) : Nat := frameLen s.actWidth s.actHeight

/-- The column `x = k mod ACT_WIDTH` of the beat with cursor k (R21, R88). -/
def column (k : DWord) (w : Word) : Nat := k.toNat % w.toNat

/-- RESULT_LEN by SCOPE and width (R39, R75); 0 for a SCOPE that is no operation. -/
def resultWords (scope : BitVec 4) (w : Word) : Nat :=
  match scope.toNat with
  | 1 => 768
  | 2 => 256 * w.toNat
  | 3 => 768 * w.toNat
  | 4 => 65536
  | 5 => 65536
  | _ => 0

/-! ### Histogram -/

/-- The increment list of PIX_HISTOGRAM (R81). -/
def histogramCells (p : Pixel) : List Nat := [p.r.toNat, 256 + p.g.toNat, 512 + p.b.toNat]

/-! ### Waveform -/

/-- Lnum = 10000 × the Rec.709 luma (R85). -/
def lumaNum (p : Pixel) : Int := 2126 * sample p.r + 7152 * sample p.g + 722 * sample p.b

/-- The rounded Rec.709 luma (R85). -/
def luma709 (p : Pixel) : Int := fdiv (lumaNum p + 5000) 10000

/-- The cell of a level in column x of a plane of width w: row 255 - level (R87, R88); a level outside 0 to 255 is
dropped, never clamped (R86, conflict C1). -/
def levelCell (w x plane : Nat) (level : Int) : List Nat :=
  if 0 ≤ level ∧ level ≤ 255 then [plane * 256 * w + (255 - level.toNat) * w + x] else []

/-- The increment list of PIX_WAVEFORM_LUMA (R89). -/
def lumaCells (w x : Nat) (p : Pixel) : List Nat := levelCell w x 0 (luma709 p)

/-- The increment list of PIX_WAVEFORM_PARADE, planes r, g, b (R90). -/
def paradeCells (w x : Nat) (p : Pixel) : List Nat :=
  levelCell w x 0 (sample p.r) ++ levelCell w x 1 (sample p.g) ++ levelCell w x 2 (sample p.b)

/-! ### Vectorscope -/

/-- DV = 10000 × (r - Y) (R94). -/
def diffV (p : Pixel) : Int := 10000 * sample p.r - lumaNum p

/-- DU = 10000 × (b - Y) (R94). -/
def diffU (p : Pixel) : Int := 10000 * sample p.b - lumaNum p

/-- The column of policy A (R94). -/
def xA (p : Pixel) : Int := fdiv (635 * diffV p + 1285000000) 10000000

/-- The row of policy A (R94). -/
def yA (p : Pixel) : Int := fdiv (12850000000 - 5389 * diffU p) 100000000

/-- Ynum = 1000 × the Rec.601 luma (R98). -/
def lumaNum601 (p : Pixel) : Int := 299 * sample p.r + 587 * sample p.g + 114 * sample p.b

/-- UB, b - Y rounded (R98). -/
def chromaU (p : Pixel) : Int := fdiv (1000 * sample p.b - lumaNum601 p + 500) 1000

/-- VB, r - Y rounded (R98). -/
def chromaV (p : Pixel) : Int := fdiv (1000 * sample p.r - lumaNum601 p + 500) 1000

/-- The column of policy B (R98). -/
def xB (p : Pixel) : Int := fdiv (128 * (chromaU p + 255)) 255

/-- The row of policy B (R98). -/
def yB (p : Pixel) : Int := fdiv (128 * (chromaV p + 255)) 255

/-- The cell of a chroma coordinate; a coordinate outside the grid is discarded, not clamped (R96). -/
def gridCell (x y : Int) : List Nat :=
  if 0 ≤ x ∧ x ≤ 255 ∧ 0 ≤ y ∧ y ≤ 255 then [y.toNat * 256 + x.toNat] else []

/-- The increment list of PIX_VECTORSCOPE_A (R97). -/
def policyACells (p : Pixel) : List Nat := gridCell (xA p) (yA p)

/-- The increment list of PIX_VECTORSCOPE_B (R100). -/
def policyBCells (p : Pixel) : List Nat := gridCell (xB p) (yB p)

end Sys2Proof.Machine
end

