-- ==== Sys2Proof/Machine/Ops.lean ====
section
/-! DEFINITION. The named operations over the counter store and the registers, the error sequence
(`60_exceptions.md` R136), the commands and the frame step (`43_command_interface.md`). -/

namespace Sys2Proof.Machine

/-! ### The counter store as bytes -/

/-- What an address with no entry reads as: 0 in a word that START zeroed, else a free byte (R40, log entry 2). -/
def Memory.unlisted (m : Memory) (a : Nat) : Byte :=
  if a < 4 * m.cleared then 0 else Config.freeByte m.epoch a

/-- The entry of an address, if there is one. -/
def findCell (a : Nat) : List Host.Cell → Option Byte
  | [] => none
  | (c, x) :: t => if a = c then some x else findCell a t

/-- One byte of the counter store. -/
def Memory.read (m : Memory) (a : Nat) : Byte := (findCell a m.cells).getD (m.unlisted a)

/-- The cells with the byte at `a` set to `b`; a byte 0 has no entry. -/
def putCell (a : Nat) (b : Byte) : List Host.Cell → List Host.Cell
  | [] => if b = 0 then [] else [(a, b)]
  | (c, x) :: t =>
    if a < c then (if b = 0 then (c, x) :: t else (a, b) :: (c, x) :: t)
    else if a = c then (if b = 0 then t else (a, b) :: t)
    else (c, x) :: putCell a b t

/-- Write one byte. A byte of an unspecified word stays unspecified (log entry 4). -/
def Memory.write (m : Memory) (a : Nat) (b : Byte) : Memory :=
  if a < 4 * m.cleared then { m with cells := putCell a b m.cells } else m

/-- The addresses rise strictly from `lo`, each below `top` and with a byte that is not 0. -/
def cellsFrom (top : Nat) : Nat → List Host.Cell → Bool
  | _, [] => true
  | lo, (c, x) :: t => decide (lo ≤ c) && decide (c < top) && decide (x ≠ 0) && cellsFrom top (c + 1) t

/-- The canonical form. -/
def Memory.wf (m : Memory) : Bool := cellsFrom (4 * m.cleared) 0 m.cells

/-- CNT[i], its four bytes in the order of R53. -/
def Memory.readWord (m : Memory) (i : Nat) : Word :=
  m.read (4 * i + 3) ++ m.read (4 * i + 2) ++ m.read (4 * i + 1) ++ m.read (4 * i)

/-- `CNT[i] <- v`. -/
def Memory.writeWord (m : Memory) (i : Nat) (v : Word) : Memory :=
  (((m.write (4 * i) (v.extractLsb' 0 8)).write (4 * i + 1) (v.extractLsb' 8 8)).write
    (4 * i + 2) (v.extractLsb' 16 8)).write (4 * i + 3) (v.extractLsb' 24 8)

/-- `CNT[i] <- 0` for every i < n (R40); the other words become unspecified. -/
def Memory.clear (m : Memory) (n : Nat) : Memory := { cells := [], cleared := n, epoch := m.epoch + 1 }

/-- Every word becomes unspecified (R40). -/
def Memory.forget (m : Memory) : Memory := m.clear 0

/-- `CNT[i] <- CNT[i] + 1`. -/
def Memory.increment (m : Memory) (i : Nat) : Memory := m.writeWord i (m.readWord i + 1)

/-- `for each i in T: CNT[i] <- CNT[i] + 1`. -/
def Memory.incrementAll (m : Memory) (t : List Nat) : Memory := t.foldl Memory.increment m

/-- Some counter of the list holds 2^32 - 1 (R119). -/
def Memory.anyFull (m : Memory) (t : List Nat) : Bool := t.any (fun i => m.readWord i == 0xFFFFFFFF)

/-! ### Bus responses -/

/-- Answer the transaction (R50). -/
def State.respond (s : State) (rdata : Word) (err : Bool) : State := { s with rsp := some { rdata := rdata, err := err } }

/-- The response of a write that is no bus error: data 0 (R47, R106). -/
def State.writeDone (s : State) : State := s.respond 0 false

/-- A bus error: err = 1, data 0, nothing else changes (R55, R142). -/
def State.busError (s : State) : State := s.respond 0 true

/-! ### Registers -/

/-- ID (R26). -/
def idWord : Word := 0x4D475343

/-- The value a register read returns, by word offset (R115); reserved offsets read 0 (R37). -/
def State.readReg (s : State) (off : BitVec 6) : Word :=
  match off.toNat with
  | 0x0 => idWord
  | 0x1 => s.caps
  | 0x2 => ctrlWord s.irqEn s.scope
  | 0x3 => statusWord s.seq s.doneIrq s.errIrq s.startIgnored
  | 0x4 => s.width
  | 0x5 => s.height
  | 0x6 => errWord s.errCode s.errDetail
  | 0x7 => s.errIndex.extractLsb' 0 32
  | 0x8 => s.errIndex.extractLsb' 32 32
  | 0x9 => s.k.extractLsb' 0 32
  | 0xA => s.k.extractLsb' 32 32
  | 0xB => s.actScope.setWidth 32
  | 0xC => s.actWidth
  | 0xD => s.actHeight
  | 0xE => s.resultLen
  | _ => 0

/-- A CTRL write stores IRQ_EN and SCOPE before it performs a command (R28, R69). -/
def State.storeCtrl (s : State) (irqEn : Bool) (scope : BitVec 4) : State := { s with irqEn := irqEn, scope := scope }

/-- A STATUS write (R70, R112). -/
def State.clearFlags (s : State) (clrDone clrErr clrIgnored : Bool) : State :=
  { s with
    doneIrq := w1c s.doneIrq clrDone
    errIrq := w1c s.errIrq clrErr
    startIgnored := w1c s.startIgnored clrIgnored }

/-! ### The error sequence -/

/-- `raise Error(code, detail, index)` (R136): record the error, set ERR_IRQ, leave the counter store unspecified,
and enter `target`. -/
def State.raise (s : State) (e : BlockError) (index : DWord) (target : Seq) : State :=
  { s with
    errCode := e.code
    errDetail := e.detail
    errIndex := index
    errIrq := true
    cnt := s.cnt.forget
    seq := target }

/-- The error sequence of a beat: to ERROR if the beat ends the frame, else to DRAIN (R136). -/
def State.raiseOnBeat (s : State) (e : BlockError) (k0 : DWord) (last : Bool) : State :=
  s.raise e k0 (if last then .error else .drain)

/-- Leaving ERROR or DRAIN, or any other state, by ABORT (R140, R111). -/
def State.abort (s : State) : State :=
  { s with seq := .idle, doneIrq := false, errIrq := false, resultLen := 0, cnt := s.cnt.forget }

/-! ### START -/

/-- The checks of a START, in order (R135). -/
def startCheck (caps : Word) (scope : BitVec 4) (w h : Word) : Option BlockError :=
  if scope.toNat = 0 ∨ 6 ≤ scope.toNat then some (.invalidScopeType scope)
  else if w.toNat = 0 then some .zeroWidth
  else if h.toNat = 0 then some .zeroHeight
  else if (scope.toNat = 2 ∨ scope.toNat = 3) ∧ caps.toNat < w.toNat then some .widthExceedsCapacity
  else none

/-- The part that a successful and a failed START share, up to StartCheck (R108, R109): latch the configuration,
zero the cursor and ERR_INDEX, clear DONE_IRQ and ERR_IRQ. -/
def State.latch (s : State) : State :=
  { s with
    actScope := s.scope
    actWidth := s.width
    actHeight := s.height
    k := 0
    errIndex := 0
    doneIrq := false
    errIrq := false }

/-- The rest of a successful START (R108). -/
def State.startFrame (s : State) : State :=
  { s with
    errCode := 0
    errDetail := 0
    resultLen := BitVec.ofNat 32 (resultWords s.actScope s.actWidth)
    cnt := s.cnt.clear (resultWords s.actScope s.actWidth)
    seq := .clear }

/-- The rest of a failed START (R109). -/
def State.failStart (s : State) (e : BlockError) : State := { s with resultLen := 0 }.raise e 0 .error

/-- START in a state that is not BUSY, its configuration already stored. -/
def State.startIdle (s : State) : State :=
  match startCheck s.latch.caps s.latch.actScope s.latch.actWidth s.latch.actHeight with
  | some e => s.latch.failStart e
  | none => s.latch.startFrame

/-- The START command: ignored while BUSY (R110), else R108 or R109. -/
def State.start (s : State) (irqEn : Bool) (scope : BitVec 4) : State :=
  if (s.storeCtrl irqEn scope).busy then { s.storeCtrl irqEn scope with startIgnored := true }
  else (s.storeCtrl irqEn scope).startIdle

/-! ### The frame -/

/-- Accumulate(T, k0, last), the counter law (R119). -/
def State.accumulate (s : State) (t : List Nat) (k0 : DWord) (last : Bool) : State :=
  if s.cnt.anyFull t then s.raiseOnBeat .counterOverflow k0 last
  else { s with cnt := s.cnt.incrementAll t }

/-- Frame completion after the increments of the beat with cursor k0 (R118, R120). -/
def State.completeAt (s : State) (k0 : DWord) : State :=
  if s.seq = .run ∧ k0.toNat + 1 = s.n then { s with seq := .done, doneIrq := true } else s

/-- The frame step of an accepted beat in RUN with increment list `t` (R118): the framing checks, then the counters,
then completion. `k0 < N - 1` and `k0 == N - 1` are on integers. -/
def State.frameStep (s : State) (t : List Nat) (last : Bool) : State :=
  if last = true ∧ s.k.toNat + 1 < s.n then { s with k := s.k + 1 }.raiseOnBeat .shortFrame s.k last
  else if last = false ∧ s.k.toNat + 1 = s.n then { s with k := s.k + 1 }.raiseOnBeat .longFrame s.k last
  else (State.accumulate { s with k := s.k + 1 } t s.k last).completeAt s.k

/-- An accepted beat in DRAIN (R121). -/
def State.drainStep (s : State) (last : Bool) : State :=
  { s with k := s.k + 1, seq := if last then .error else s.seq }

/-! ### Events that are no row of the opcode table -/

/-- CLEAR_DONE: enabled in CLEAR, enters RUN, changes nothing else (R116). -/
def State.clearDone (s : State) : State := if s.seq = .clear then { s with seq := .run } else s

/-- Reset() (R151, R152): every register to its reset value, CNT unspecified; a request taken and not answered is lost
with no response; the beats stay with the source. -/
def State.resetEvent (s : State) (abandon : Bool) : State :=
  { State.resetWith s.caps with
    cnt := s.cnt.forget
    hostReqs := if abandon then s.hostReqs.tail else s.hostReqs
    source := s.source
    schedule := s.schedule
    freeTurns := s.freeTurns }

end Sys2Proof.Machine
end

