-- ==== Sys2Proof/Machine/Command.lean ====
section
/-! DEFINITION. The commands of a CTRL write (`43_command_interface.md` R107 to R111). -/

namespace Sys2Proof.Machine

/-- CFG (R107). -/
def execCfg (irqEn : Bool) (scope : BitVec 4) (s : State) : Host.Outcome State Fault Refusal :=
  .next (s.storeCtrl irqEn scope).writeDone

/-- START_HISTOGRAM (R108 to R110). -/
def execStartHistogram (irqEn : Bool) (s : State) : Host.Outcome State Fault Refusal :=
  .next (s.start irqEn 1).writeDone

/-- START_WAVEFORM_LUMA (R108 to R110). -/
def execStartWaveformLuma (irqEn : Bool) (s : State) : Host.Outcome State Fault Refusal :=
  .next (s.start irqEn 2).writeDone

/-- START_WAVEFORM_PARADE (R108 to R110). -/
def execStartWaveformParade (irqEn : Bool) (s : State) : Host.Outcome State Fault Refusal :=
  .next (s.start irqEn 3).writeDone

/-- START_VECTORSCOPE_A (R108 to R110). -/
def execStartVectorscopeA (irqEn : Bool) (s : State) : Host.Outcome State Fault Refusal :=
  .next (s.start irqEn 4).writeDone

/-- START_VECTORSCOPE_B (R108 to R110). -/
def execStartVectorscopeB (irqEn : Bool) (s : State) : Host.Outcome State Fault Refusal :=
  .next (s.start irqEn 5).writeDone

/-- START_INVALID_SCOPE0 (R109, R110). -/
def execStartInvalidScope0 (irqEn : Bool) (s : State) : Host.Outcome State Fault Refusal :=
  .next (s.start irqEn 0).writeDone

/-- START_INVALID_SCOPE6_7 (R109, R110). -/
def execStartInvalidScope6_7 (irqEn : Bool) (scope : BitVec 4) (s : State) : Host.Outcome State Fault Refusal :=
  .next (s.start irqEn scope).writeDone

/-- START_INVALID_SCOPE8_15 (R109, R110). -/
def execStartInvalidScope8_15 (irqEn : Bool) (scope : BitVec 4) (s : State) : Host.Outcome State Fault Refusal :=
  .next (s.start irqEn scope).writeDone

/-- ABORT, whatever START is (R111); START_IGNORED is not set. -/
def execAbort (irqEn : Bool) (scope : BitVec 4) (s : State) : Host.Outcome State Fault Refusal :=
  .next (s.storeCtrl irqEn scope).abort.writeDone

end Sys2Proof.Machine
end

