-- ==== Sys2Proof/Machine/Pixel.lean ====
section
/-! DEFINITION. The per-beat operations (`40_histogram.md` R81, `41_waveform.md` R89, R90, `42_vectorscope.md` R97, R100,
`43_command_interface.md` R121), each inside the frame step R118. The decoder selects them by STATE and ACT_SCOPE
(`30_encoding.md` R74); a meaning does not select again (log entry 16). -/

namespace Sys2Proof.Machine

/-- PIX_HISTOGRAM (R81). -/
def execPixHistogram (p : Pixel) (last : Bool) (s : State) : Host.Outcome State Fault Refusal :=
  .next (s.frameStep (histogramCells p) last)

/-- PIX_WAVEFORM_LUMA (R89). -/
def execPixWaveformLuma (p : Pixel) (last : Bool) (s : State) : Host.Outcome State Fault Refusal :=
  .next (s.frameStep (lumaCells s.actWidth.toNat (column s.k s.actWidth) p) last)

/-- PIX_WAVEFORM_PARADE (R90). -/
def execPixWaveformParade (p : Pixel) (last : Bool) (s : State) : Host.Outcome State Fault Refusal :=
  .next (s.frameStep (paradeCells s.actWidth.toNat (column s.k s.actWidth) p) last)

/-- PIX_VECTORSCOPE_A (R97). -/
def execPixVectorscopeA (p : Pixel) (last : Bool) (s : State) : Host.Outcome State Fault Refusal :=
  .next (s.frameStep (policyACells p) last)

/-- PIX_VECTORSCOPE_B (R100). -/
def execPixVectorscopeB (p : Pixel) (last : Bool) (s : State) : Host.Outcome State Fault Refusal :=
  .next (s.frameStep (policyBCells p) last)

/-- PIX_DRAIN (R121): the data is ignored. -/
def execPixDrain (last : Bool) (s : State) : Host.Outcome State Fault Refusal := .next (s.drainStep last)

end Sys2Proof.Machine
end

