-- ==== Sys2Proof/Machine/Register.lean ====
section
/-! DEFINITION. Register writes that are no command, and register reads (`43_command_interface.md` R112 to R115). -/

namespace Sys2Proof.Machine

/-- WR_STATUS (R112). -/
def execWrStatus (clrDone clrErr clrIgnored : Bool) (s : State) : Host.Outcome State Fault Refusal :=
  .next (s.clearFlags clrDone clrErr clrIgnored).writeDone

/-- WR_WIDTH (R113). -/
def execWrWidth (wd : Word) (s : State) : Host.Outcome State Fault Refusal :=
  .next { s with width := wd }.writeDone

/-- WR_HEIGHT (R113). -/
def execWrHeight (wd : Word) (s : State) : Host.Outcome State Fault Refusal :=
  .next { s with height := wd }.writeDone

/-- WR_IGNORED (R114): nothing changes; the response has err = 0. -/
def execWrIgnored (s : State) : Host.Outcome State Fault Refusal := .next s.writeDone

/-- RD_REG (R115). -/
def execRdReg (off : BitVec 6) (s : State) : Host.Outcome State Fault Refusal := .next (s.respond (s.readReg off) false)

end Sys2Proof.Machine
end

