-- ==== Sys2Proof/Machine/Result.lean ====
section
/-! DEFINITION. The result window (`44_result_readout.md`) and the bus errors (`20_memory.md` R55). -/

namespace Sys2Proof.Machine

/-- RD_RESULT (R127, R128): a bus error outside DONE; CNT[i] below RESULT_LEN; 0 past it. -/
def execRdResult (i : BitVec 30) (s : State) : Host.Outcome State Fault Refusal :=
  if s.seq ≠ .done then .next s.busError
  else if i.toNat < s.resultLen.toNat then .next (s.respond (s.cnt.readWord i.toNat) false)
  else .next (s.respond 0 false)

/-- WR_RESULT (R129): always a bus error. -/
def execWrResult (s : State) : Host.Outcome State Fault Refusal := .next s.busError

/-- BUSERR_MISALIGNED (R55 case 1). -/
def execBuserrMisaligned (s : State) : Host.Outcome State Fault Refusal := .next s.busError

/-- BUSERR_UNMAPPED (R55 case 2). -/
def execBuserrUnmapped (s : State) : Host.Outcome State Fault Refusal := .next s.busError

end Sys2Proof.Machine
end

