-- ==== Sys2Proof/Machine/Dispatch.lean ====
section
/-! DEFINITION. One arm per operation of `30_encoding.md` R76. -/

namespace Sys2Proof.Machine

def exec (i : Instr) (s : State) : Host.Outcome State Fault Refusal :=
  match i with
  | .cfg irqEn scope => Sys2Proof.Machine.execCfg irqEn scope s
  | .startHistogram irqEn => Sys2Proof.Machine.execStartHistogram irqEn s
  | .startWaveformLuma irqEn => Sys2Proof.Machine.execStartWaveformLuma irqEn s
  | .startWaveformParade irqEn => Sys2Proof.Machine.execStartWaveformParade irqEn s
  | .startVectorscopeA irqEn => Sys2Proof.Machine.execStartVectorscopeA irqEn s
  | .startVectorscopeB irqEn => Sys2Proof.Machine.execStartVectorscopeB irqEn s
  | .startInvalidScope0 irqEn => Sys2Proof.Machine.execStartInvalidScope0 irqEn s
  | .startInvalidScope6_7 irqEn scope => Sys2Proof.Machine.execStartInvalidScope6_7 irqEn scope s
  | .startInvalidScope8_15 irqEn scope => Sys2Proof.Machine.execStartInvalidScope8_15 irqEn scope s
  | .abort _ irqEn scope => Sys2Proof.Machine.execAbort irqEn scope s
  | .wrStatus clrDone clrErr clrIgnored => Sys2Proof.Machine.execWrStatus clrDone clrErr clrIgnored s
  | .wrWidth wd => Sys2Proof.Machine.execWrWidth wd s
  | .wrHeight wd => Sys2Proof.Machine.execWrHeight wd s
  | .wrIgnored _ => Sys2Proof.Machine.execWrIgnored s
  | .rdReg off => Sys2Proof.Machine.execRdReg off s
  | .rdResult idx => Sys2Proof.Machine.execRdResult idx s
  | .wrResult _ => Sys2Proof.Machine.execWrResult s
  | .buserrMisaligned _ _ => Sys2Proof.Machine.execBuserrMisaligned s
  | .buserrUnmapped _ _ => Sys2Proof.Machine.execBuserrUnmapped s
  | .pixHistogram p last => Sys2Proof.Machine.execPixHistogram p last s
  | .pixWaveformLuma p last => Sys2Proof.Machine.execPixWaveformLuma p last s
  | .pixWaveformParade p last => Sys2Proof.Machine.execPixWaveformParade p last s
  | .pixVectorscopeA p last => Sys2Proof.Machine.execPixVectorscopeA p last s
  | .pixVectorscopeB p last => Sys2Proof.Machine.execPixVectorscopeB p last s
  | .pixDrain _ last => Sys2Proof.Machine.execPixDrain last s

end Sys2Proof.Machine
end

