-- ==== Sys2Proof/Machine/Fetch.lean ====
section
/-! DEFINITION. Which event comes next, and what the decoder makes of it (`00_scope.md` R13, `20_memory.md` R60,
`30_encoding.md` R65). The block fetches no instructions (R63); the events are its instructions. -/

namespace Sys2Proof.Machine

/-- What the next event is. -/
inductive Fetched where
  /-- An operation of the opcode table, and the state with the event taken from its agent. -/
  | run (i : Instr) (s : State)
  /-- An event that is no operation, already done, or no event at all. -/
  | quiet (s : State)
  /-- An input for which the spec gives no behaviour. -/
  | stop (r : Refusal)
deriving DecidableEq, Repr

/-- The host's next transaction, decoded on this block's address map. -/
def State.fetchBus (s : State) : Fetched :=
  match s.hostReqs with
  | [] => .quiet s
  | q :: rest => .run (decodeReq s.caps.toNat q) { s with hostReqs := rest }

/-- The source's next beat: taken where it is accepted, else it stays with the source (R44). -/
def State.fetchBeat (s : State) : Fetched :=
  match s.source with
  | [] => .quiet s
  | b :: rest =>
    match decodeBeat s.seq s.actScope b with
    | .ok i => .run i { s with source := rest }
    | .reject .beatNotAccepted => .quiet s
    | .reject .noOperationSelected => .stop .beatSelectsNothing

/-- The event of one agent. -/
def State.fetchTurn (s : State) : Turn → Fetched
  | .bus => s.fetchBus
  | .beat => s.fetchBeat
  | .clear => .quiet s.clearDone
  | .reset abandon => .quiet (s.resetEvent abandon)
  | .hostBreach => .stop .hostHandshakeBroken
  | .sourceBreach => .stop .sourceHandshakeBroken

/-- The events that can happen now (R44, R49, R116). -/
def State.enabled (s : State) : List Turn :=
  (if s.hostReqs.isEmpty then [] else [.bus]) ++ (if s.source.isEmpty || !s.mayAccept then [] else [.beat])
    ++ (if s.seq = .clear then [.clear] else [])

/-- The next event: the one the schedule names; where it names none, any one that can happen, by free choice
(log entry 6); where none can happen the block waits (R163). -/
def State.fetchNext (s : State) : Fetched :=
  match s.schedule with
  | t :: rest => { s with schedule := rest }.fetchTurn t
  | [] =>
    match s.enabled with
    | [] => .quiet s
    | [t] => s.fetchTurn t
    | t :: u :: rest =>
      { s with freeTurns := s.freeTurns + 1 }.fetchTurn
        ((t :: u :: rest).getD (Config.freeChoice s.freeTurns % (t :: u :: rest).length) t)

/-- A response lasts for one event: the next event begins with `reg_rsp_valid = 0` (R49, log entry 8). -/
def State.fetch (s : State) : Fetched := State.fetchNext { s with rsp := none }

/-- Put an event where `fetch` takes its next one: at the head of its agent's inputs and of the schedule. A beat comes
with the STATE and ACT_SCOPE that select its operation (R74). -/
def State.placeEvent (s : State) : Event → State
  | .regop q => { s with hostReqs := q :: s.hostReqs, schedule := .bus :: s.schedule }
  | .beat seq actScope b =>
    { s with source := b :: s.source, schedule := .beat :: s.schedule, seq := seq, actScope := actScope }

end Sys2Proof.Machine
end

