-- ==== Sys2Proof/Machine/Step.lean ====
section
/-! DEFINITION. One step: one atomic event (`00_scope.md` R13). -/

namespace Sys2Proof.Machine

/-- Take the next event and do it. -/
def step (s : State) : Host.Outcome State Fault Refusal :=
  match s.fetch with
  | .run i s' => exec i s'
  | .quiet s' => .next s'
  | .stop r => .refused r

/-- The state with the event of an opcode-table word placed so that the next step runs it (log entries 5 and 12). -/
def State.withFetchWord (s : State) (nbits w : Nat) : State :=
  match eventOfTableWord nbits w with
  | some e => s.placeEvent e
  | none => s

end Sys2Proof.Machine
end

