-- ==== Sys2Proof/Safety.lean ====
section
/-! DEFINITION. What the states of a run look like (the invariants of the block), and the sums a result satisfies. -/

namespace Sys2Proof.Machine

/-- A request is in progress without error, or has completed: its counters are specified (R40). -/
def State.counting (s : State) : Bool :=
  match s.seq with
  | .clear => true
  | .run => true
  | .done => true
  | .idle => false
  | .drain => false
  | .error => false

/-- The latched configuration of a frame that START let through (R108, R135). -/
structure FrameConfig (s : State) : Prop where
  /-- ACT_SCOPE is 1 to 5. -/
  scope_valid : 1 ≤ s.actScope.toNat ∧ s.actScope.toNat ≤ 5
  /-- ACT_WIDTH is not 0. -/
  width_pos : 0 < s.actWidth.toNat
  /-- ACT_HEIGHT is not 0. -/
  height_pos : 0 < s.actHeight.toNat
  /-- A waveform fits the counter store. -/
  width_fits : s.actScope.toNat = 2 ∨ s.actScope.toNat = 3 → s.actWidth.toNat ≤ s.caps.toNat
  /-- RESULT_LEN is the result's length (R39). -/
  result_len : s.resultLen.toNat = resultWords s.actScope s.actWidth
  /-- START zeroed exactly the words of the result (R40). -/
  cleared : s.cnt.cleared = s.resultLen.toNat

/-- ERR holds a pair of the table of R134 that this model produces. -/
def errListed (code : BitVec 4) (detail : BitVec 8) : Bool :=
  (code == 0 && detail == 0)
    || (code == 1 && (detail == 0 || (decide (6 ≤ detail.toNat) && decide (detail.toNat ≤ 15))))
    || (code == 2 && (detail == 1 || detail == 2 || detail == 3 || detail == 4))
    || (code == 3 && (detail == 1 || detail == 2))

/-- The states a run can be in: what R21 to R46 and R134 to R141 say of the registers together. -/
structure Legal (s : State) : Prop where
  /-- The counter store is in canonical form. -/
  cnt_wf : s.cnt.wf = true
  /-- 1 ≤ W_MAX ≤ 1392640 (R9). -/
  caps_range : 1 ≤ s.caps.toNat ∧ s.caps.toNat ≤ Config.wMaxLimit
  /-- A request in progress or completed has a valid configuration. -/
  frame : s.counting = true → FrameConfig s
  /-- No beat is accepted before RUN (R44). -/
  clear_cursor : s.seq = .clear → s.k = 0
  /-- In RUN the next beat is a pixel of the frame (R21, R118). -/
  run_cursor : s.seq = .run → s.k.toNat < s.n
  /-- In DONE exactly N beats were accepted (R117). -/
  done_cursor : s.seq = .done → s.k.toNat = s.n
  /-- DONE_IRQ is set only with a completed frame (R29, R120). -/
  done_flag : s.doneIrq = true → s.seq = .done
  /-- ERR_IRQ is set only with an error (R29, R136). -/
  err_flag : s.errIrq = true → s.seq = .drain ∨ s.seq = .error
  /-- ERR is a row of R134. -/
  err_table : errListed s.errCode s.errDetail = true
  /-- A request that has no error so far has ERR = 0 (R108). -/
  err_none : s.counting = true → s.errCode = 0 ∧ s.errDetail = 0
  /-- A failed request has ERR set (R136). -/
  err_some : s.seq = .drain ∨ s.seq = .error → s.errCode ≠ 0
  /-- RESULT_LEN is 0 after reset and after ABORT (R36). -/
  idle_len : s.seq = .idle → s.resultLen = 0
  /-- The counters are 0 until the first beat (R40). -/
  clear_cells : s.seq = .clear → s.cnt.cells = []

/-- The sum of `n` counters, from word `start` on, `stride` words apart. -/
def Memory.sumFrom (m : Memory) (start stride : Nat) : Nat → Nat
  | 0 => 0
  | n + 1 => m.sumFrom start stride n + (m.readWord (start + stride * n)).toNat

/-- How many of the first `k` pixels of a raster of width `w` lie in column `x` (R21). -/
def columnBeats (k w x : Nat) : Nat := k / w + if x < k % w then 1 else 0

/-- Every accepted beat is counted once in each plane of the result (R83, R92, R101). -/
structure PlanesCounted (s : State) : Prop where
  /-- HISTOGRAM: each of the three channels. -/
  histogram : s.counting = true → s.actScope = 1 → ∀ c < 3, s.cnt.sumFrom (256 * c) 1 256 = s.k.toNat
  /-- WAVEFORM_LUMA: the grid. -/
  luma : s.counting = true → s.actScope = 2 → s.cnt.sumFrom 0 1 (256 * s.actWidth.toNat) = s.k.toNat
  /-- WAVEFORM_PARADE: each of the three grids. -/
  parade : s.counting = true → s.actScope = 3 →
    ∀ p < 3, s.cnt.sumFrom (p * 256 * s.actWidth.toNat) 1 (256 * s.actWidth.toNat) = s.k.toNat
  /-- VECTORSCOPE_A and VECTORSCOPE_B: the grid; no pixel of this block is discarded. -/
  vectorscope : s.counting = true → s.actScope = 4 ∨ s.actScope = 5 → s.cnt.sumFrom 0 1 65536 = s.k.toNat

/-- Every column of a waveform grid counts the beats of that image column (R88, R92). -/
structure ColumnsCounted (s : State) : Prop where
  /-- WAVEFORM_LUMA. -/
  luma : s.counting = true → s.actScope = 2 → ∀ x < s.actWidth.toNat,
    s.cnt.sumFrom x s.actWidth.toNat 256 = columnBeats s.k.toNat s.actWidth.toNat x
  /-- WAVEFORM_PARADE: in each of the three grids. -/
  parade : s.counting = true → s.actScope = 3 → ∀ p < 3, ∀ x < s.actWidth.toNat,
    s.cnt.sumFrom (p * 256 * s.actWidth.toNat + x) s.actWidth.toNat 256 = columnBeats s.k.toNat s.actWidth.toNat x

/-- IRQ_EN and SCOPE of a START operation (`30_encoding.md` R76); `none` for every other operation. -/
def startOperands : Instr → Option (Bool × BitVec 4)
  | .startHistogram e => some (e, 1)
  | .startWaveformLuma e => some (e, 2)
  | .startWaveformParade e => some (e, 3)
  | .startVectorscopeA e => some (e, 4)
  | .startVectorscopeB e => some (e, 5)
  | .startInvalidScope0 e => some (e, 0)
  | .startInvalidScope6_7 e c => some (e, c)
  | .startInvalidScope8_15 e c => some (e, c)
  | .cfg _ _ => none
  | .abort _ _ _ => none
  | .wrStatus _ _ _ => none
  | .wrWidth _ => none
  | .wrHeight _ => none
  | .wrIgnored _ => none
  | .rdReg _ => none
  | .rdResult _ => none
  | .wrResult _ => none
  | .buserrMisaligned _ _ => none
  | .buserrUnmapped _ _ => none
  | .pixHistogram _ _ => none
  | .pixWaveformLuma _ _ => none
  | .pixWaveformParade _ _ => none
  | .pixVectorscopeA _ _ => none
  | .pixVectorscopeB _ _ => none
  | .pixDrain _ _ => none

/-- The increment list and s_last of a beat operation in RUN (R81, R89, R90, R97, R100); `none` for every other
operation. -/
def runBeat (s : State) : Instr → Option (List Nat × Bool)
  | .pixHistogram p last => some (histogramCells p, last)
  | .pixWaveformLuma p last => some (lumaCells s.actWidth.toNat (column s.k s.actWidth) p, last)
  | .pixWaveformParade p last => some (paradeCells s.actWidth.toNat (column s.k s.actWidth) p, last)
  | .pixVectorscopeA p last => some (policyACells p, last)
  | .pixVectorscopeB p last => some (policyBCells p, last)
  | .cfg _ _ => none
  | .startHistogram _ => none
  | .startWaveformLuma _ => none
  | .startWaveformParade _ => none
  | .startVectorscopeA _ => none
  | .startVectorscopeB _ => none
  | .startInvalidScope0 _ => none
  | .startInvalidScope6_7 _ _ => none
  | .startInvalidScope8_15 _ _ => none
  | .abort _ _ _ => none
  | .wrStatus _ _ _ => none
  | .wrWidth _ => none
  | .wrHeight _ => none
  | .wrIgnored _ => none
  | .rdReg _ => none
  | .rdResult _ => none
  | .wrResult _ => none
  | .buserrMisaligned _ _ => none
  | .buserrUnmapped _ _ => none
  | .pixDrain _ _ => none

/-- `t` is `s` after a beat that counts one pixel in `cells` and, if it is the last, completes the frame: the listed
counters go up by 1, every other byte of the store, and every field not named, is as before (R118 to R120). -/
def countedBeat (s t : State) (cells : List Nat) (last : Bool) : Prop :=
  t = { s with
        k := s.k + 1
        cnt := t.cnt
        seq := if last then .done else .run
        doneIrq := s.doneIrq || last } ∧
    t.cnt.cleared = s.cnt.cleared ∧ t.cnt.epoch = s.cnt.epoch ∧
    (∀ j, t.cnt.readWord j = s.cnt.readWord j + if j ∈ cells then 1 else 0) ∧
    (∀ a, a / 4 ∉ cells → t.cnt.read a = s.cnt.read a)

/-- The state after a beat in RUN that raises an error (R118, R136). -/
def erredBeat (s : State) (code : BitVec 4) (detail : BitVec 8) (last : Bool) : State :=
  { s with
    k := s.k + 1
    errCode := code
    errDetail := detail
    errIndex := s.k
    errIrq := true
    cnt := s.cnt.forget
    seq := if last then .error else .drain }

/-- The state after a START that is not ignored and fails its checks (R109, R136). -/
def failedStart (s : State) (irqEn : Bool) (scope : BitVec 4) (code : BitVec 4) (detail : BitVec 8) : State :=
  { s with
    irqEn := irqEn
    scope := scope
    actScope := scope
    actWidth := s.width
    actHeight := s.height
    k := 0
    errIndex := 0
    doneIrq := false
    errIrq := true
    errCode := code
    errDetail := detail
    resultLen := 0
    cnt := s.cnt.forget
    seq := .error
    rsp := some { rdata := 0, err := false } }

/-- The state after a successful START whose result has `len` words (R108). -/
def startedFrame (s : State) (irqEn : Bool) (scope : BitVec 4) (len : Nat) : State :=
  { s with
    irqEn := irqEn
    scope := scope
    actScope := scope
    actWidth := s.width
    actHeight := s.height
    k := 0
    errIndex := 0
    doneIrq := false
    errIrq := false
    errCode := 0
    errDetail := 0
    resultLen := BitVec.ofNat 32 len
    cnt := s.cnt.clear len
    seq := .clear
    rsp := some { rdata := 0, err := false } }

/-- The two blocks are at the same point of the same request, with the same error and the same counts: nothing a beat or a
result read depends on tells them apart (R125). The two W1C interrupt flags, which a host may clear on one of them, are
left out. -/
structure SameRequest (s s' : State) : Prop where
  seq_eq : s.seq = s'.seq
  k_eq : s.k = s'.k
  scope_eq : s.actScope = s'.actScope
  width_eq : s.actWidth = s'.actWidth
  height_eq : s.actHeight = s'.actHeight
  len_eq : s.resultLen = s'.resultLen
  code_eq : s.errCode = s'.errCode
  detail_eq : s.errDetail = s'.errDetail
  index_eq : s.errIndex = s'.errIndex
  cleared_eq : s.cnt.cleared = s'.cnt.cleared
  count_eq : ∀ i < s.cnt.cleared, s.cnt.readWord i = s'.cnt.readWord i

/-- The same request, with the same interrupt flags. -/
structure SameFrame (s s' : State) : Prop extends SameRequest s s' where
  done_eq : s.doneIrq = s'.doneIrq
  err_eq : s.errIrq = s'.errIrq

/-- The block after the beats of a list, each accepted in turn as long as one is accepted (R44, R74). -/
def acceptBeats : List Beat → State → State
  | [], s => s
  | b :: rest, s =>
    match decodeBeat s.seq s.actScope b with
    | .ok i =>
      match exec i s with
      | .next t => acceptBeats rest t
      | .fault _ => s
      | .refused _ => s
    | .reject _ => s

/-- How many beats of a frame have a pixel and a cursor k (0 for the first beat) that satisfy `f`: the `#{ k : … }` of
R83, R92 and R101. -/
def pixelsWith (beats : List Beat) (f : Nat → Pixel → Bool) : Nat :=
  beats.zipIdx.countP (fun q => f q.2 (pixelOfData q.1.data))

/-- Each counter of the current result is the number of the beats `past` that R83, R92 and R101 assign to it, and `past`
is as long as the cursor says: `past` is the beats accepted since the last START that was not ignored (R21, R40). -/
structure CountedExactly (s : State) (past : List Beat) : Prop where
  /-- The cursor counts the beats. -/
  length : s.counting = true → past.length = s.k.toNat
  /-- HISTOGRAM. -/
  histogram : s.counting = true → s.actScope = 1 → ∀ v < 256,
    (s.cnt.readWord v).toNat = pixelsWith past (fun _ p => p.r.toNat == v) ∧
    (s.cnt.readWord (256 + v)).toNat = pixelsWith past (fun _ p => p.g.toNat == v) ∧
    (s.cnt.readWord (512 + v)).toNat = pixelsWith past (fun _ p => p.b.toNat == v)
  /-- WAVEFORM_LUMA. -/
  luma : s.counting = true → s.actScope = 2 → ∀ x < s.actWidth.toNat, ∀ v < 256,
    (s.cnt.readWord ((255 - v) * s.actWidth.toNat + x)).toNat =
      pixelsWith past (fun k p => k % s.actWidth.toNat == x && luma709 p == v)
  /-- WAVEFORM_PARADE. -/
  parade : s.counting = true → s.actScope = 3 → ∀ x < s.actWidth.toNat, ∀ v < 256,
    (s.cnt.readWord ((255 - v) * s.actWidth.toNat + x)).toNat =
      pixelsWith past (fun k p => k % s.actWidth.toNat == x && p.r.toNat == v) ∧
    (s.cnt.readWord (256 * s.actWidth.toNat + (255 - v) * s.actWidth.toNat + x)).toNat =
      pixelsWith past (fun k p => k % s.actWidth.toNat == x && p.g.toNat == v) ∧
    (s.cnt.readWord (512 * s.actWidth.toNat + (255 - v) * s.actWidth.toNat + x)).toNat =
      pixelsWith past (fun k p => k % s.actWidth.toNat == x && p.b.toNat == v)
  /-- VECTORSCOPE_A. -/
  vectorscopeA : s.counting = true → s.actScope = 4 → ∀ x < 256, ∀ y < 256,
    (s.cnt.readWord (y * 256 + x)).toNat = pixelsWith past (fun _ p => xA p == x && yA p == y)
  /-- VECTORSCOPE_B. -/
  vectorscopeB : s.counting = true → s.actScope = 5 → ∀ x < 256, ∀ y < 256,
    (s.cnt.readWord (y * 256 + x)).toNat = pixelsWith past (fun _ p => xB p == x && yB p == y)

/-- The beats that left the source between two states: the one the step accepted, or none (R44). -/
def acceptedBeats (s t : State) : List Beat := s.source.take (s.source.length - t.source.length)

/-- The beats of the current frame after a step: none in CLEAR, where the frame has not begun, else the step's own after
those of before (R21, R117). -/
def pastAfter (s t : State) (past : List Beat) : List Beat :=
  if t.seq = .clear then [] else past ++ acceptedBeats s t

/-- The state whose next event was just placed and is being run: the input lists are back to what they were, the response
of the event before is gone, and a beat has set the STATE and ACT_SCOPE that select it (log entry 5). -/
def State.runningPlaced (s : State) : Event → State
  | .regop _ => { s with rsp := none }
  | .beat seq actScope _ => { s with rsp := none, seq := seq, actScope := actScope }

/-- The transitions of the sequencer that `10_state.md` R23 lists, and staying. -/
def seqMay : Seq → Seq → Bool
  | _, .idle => true
  | .idle, .clear => true
  | .done, .clear => true
  | .error, .clear => true
  | .clear, .clear => true
  | .idle, .error => true
  | .done, .error => true
  | .error, .error => true
  | .run, .error => true
  | .drain, .error => true
  | .clear, .run => true
  | .run, .run => true
  | .run, .done => true
  | .done, .done => true
  | .run, .drain => true
  | .drain, .drain => true
  | .clear, .done => false
  | .clear, .drain => false
  | .clear, .error => false
  | .drain, .clear => false
  | .drain, .run => false
  | .drain, .done => false
  | .run, .clear => false
  | .idle, .run => false
  | .done, .run => false
  | .error, .run => false
  | .idle, .done => false
  | .error, .done => false
  | .idle, .drain => false
  | .done, .drain => false
  | .error, .drain => false

end Sys2Proof.Machine
end

