-- ==== Sys2Proof/Certificates/Slice0/Obligations.lean ====
section
/-! DEFINITION. The statements about the block, one `def Obligations.<Name> : Prop` each. A statement about the counter
store of a state that no run reaches takes `Legal` as a premise; that every step keeps `Legal` is a statement too. -/

open Sys2Proof Sys2Proof.Machine

/-! ### Encoding -/

/-- Decoding the encoding of a well-formed operation gives that operation back, with every operand, on a block of every
W_MAX (`30_encoding.md` R65 to R76). -/
def Obligations.DecodeOfEncode : Prop :=
  ∀ (wMax : Nat) (i : Instr), 1 ≤ wMax → wMax ≤ Config.wMaxLimit → i.wellFormed wMax = true →
    decode wMax (encode i) = .ok i

/-- The same through the flat number of an event's bits, the model's own numbering (DESIGN CHOICE, log entry 12), on
a block with the W_MAX of `State.reset` (DESIGN CHOICE, log entry 1). -/
def Obligations.DecodeTableWordOfEncode : Prop :=
  ∀ i : Instr, i.wellFormed Config.wMaxAtReset.toNat = true →
    decodeTableWord (tableBits (encode i)) (tableWord (encode i)) = some i

/-- Every 32-bit CTRL write word matches exactly one of the ten CTRL rows of the opcode table, and the decoder gives the
operation of that row (R76). -/
def Obligations.CtrlWordMatchesExactlyItsRow : Prop :=
  ∀ (wMax : Nat) (wd : Word),
    [ctrlRow 0x00 0x03, ctrlRow 0x11 0xF3, ctrlRow 0x21 0xF3, ctrlRow 0x31 0xF3, ctrlRow 0x41 0xF3,
      ctrlRow 0x51 0xF3, ctrlRow 0x01 0xF3, ctrlRow 0x61 0xE3, ctrlRow 0x81 0x83, ctrlRow 0x02 0x02].filter
        (fun r => r.fits (.regop { write := true, addr := 0x008, wdata := wd })) =
      [(decodeReq wMax { write := true, addr := 0x008, wdata := wd }).row]

/-- Bits 3 and 31:8 of a CTRL write, the bits of a STATUS write other than 10:8, and the write data of every read, of
every ignored write and of every bus error change nothing in what the decoder reads (R66, R68, R70, R77). -/
def Obligations.IgnoredBitsDoNotDecode : Prop :=
  (∀ (wMax : Nat) (wd wd' : Word), wd &&& 0xF7 = wd' &&& 0xF7 →
    decodeReq wMax { write := true, addr := 0x008, wdata := wd } =
      decodeReq wMax { write := true, addr := 0x008, wdata := wd' }) ∧
  (∀ (wMax : Nat) (wd wd' : Word), wd &&& 0x700 = wd' &&& 0x700 →
    decodeReq wMax { write := true, addr := 0x00C, wdata := wd } =
      decodeReq wMax { write := true, addr := 0x00C, wdata := wd' }) ∧
  (∀ (wMax : Nat) (q : BusReq) (wd : Word),
    q.write = false ∨ q.addr.toNat % 4 ≠ 0 ∨ 256 ≤ q.addr.toNat ∨ q.addr.toNat < 8 ∨ 24 ≤ q.addr.toNat →
    decodeReq wMax { q with wdata := wd } = decodeReq wMax q)

/-- The address decode of a request: misaligned, register, result window, unmapped, in this order, with the register
writes of R106 and the word offset or word index as operand (R67, R106, R72). -/
def Obligations.AddressDecodeCases : Prop :=
  ∀ (wMax : Nat) (q : BusReq), wMax ≤ Config.wMaxLimit →
    (q.addr.toNat % 4 ≠ 0 → decodeReq wMax q = .buserrMisaligned q.write q.addr) ∧
    (q.addr.toNat % 4 = 0 → q.addr.toNat < 256 → q.write = false →
      decodeReq wMax q = .rdReg (BitVec.ofNat 6 (q.addr.toNat / 4))) ∧
    (q.addr.toNat % 4 = 0 → q.addr.toNat < 256 → q.write = true →
      decodeReq wMax q =
        if q.addr.toNat = 0x008 then decodeCmd q.wdata
        else if q.addr.toNat = 0x00C then
          .wrStatus (q.wdata.getLsbD 8) (q.wdata.getLsbD 9) (q.wdata.getLsbD 10)
        else if q.addr.toNat = 0x010 then .wrWidth q.wdata
        else if q.addr.toNat = 0x014 then .wrHeight q.wdata
        else .wrIgnored (BitVec.ofNat 6 (q.addr.toNat / 4))) ∧
    (q.addr.toNat % 4 = 0 → 0x01000000 ≤ q.addr.toNat →
      q.addr.toNat < 0x01000000 + 4 * max 65536 (768 * wMax) →
      ∃ i : BitVec 30, 0x01000000 + 4 * i.toNat = q.addr.toNat ∧
        decodeReq wMax q = if q.write then .wrResult i else .rdResult i) ∧
    (q.addr.toNat % 4 = 0 → 256 ≤ q.addr.toNat →
      (q.addr.toNat < 0x01000000 ∨ 0x01000000 + 4 * max 65536 (768 * wMax) ≤ q.addr.toNat) →
      decodeReq wMax q = .buserrUnmapped q.write q.addr)

/-- Every request decodes to a well-formed operation: there is no illegal bus request (R65, R67). -/
def Obligations.EveryRequestDecodesWellFormed : Prop :=
  ∀ (wMax : Nat) (q : BusReq), wMax ≤ Config.wMaxLimit → (decodeReq wMax q).wellFormed wMax = true

/-- The operation of a beat by STATE and ACT_SCOPE, its samples taken from the bytes of `s_data`; in IDLE, CLEAR, DONE
and ERROR it is not accepted (R52, R73, R74). -/
def Obligations.BeatSelection : Prop :=
  ∀ b : Beat, ∃ p : Pixel,
    (p.r.toNat = b.data.toNat % 256 ∧ p.g.toNat = b.data.toNat / 256 % 256 ∧
      p.b.toNat = b.data.toNat / 65536 % 256 ∧ p.a.toNat = b.data.toNat / 16777216) ∧
    decodeBeat .run 1 b = .ok (.pixHistogram p b.last) ∧
    decodeBeat .run 2 b = .ok (.pixWaveformLuma p b.last) ∧
    decodeBeat .run 3 b = .ok (.pixWaveformParade p b.last) ∧
    decodeBeat .run 4 b = .ok (.pixVectorscopeA p b.last) ∧
    decodeBeat .run 5 b = .ok (.pixVectorscopeB p b.last) ∧
    (∀ c : BitVec 4, decodeBeat .drain c b = .ok (.pixDrain p b.last)) ∧
    (∀ c : BitVec 4, decodeBeat .idle c b = .reject .beatNotAccepted ∧
      decodeBeat .clear c b = .reject .beatNotAccepted ∧ decodeBeat .done c b = .reject .beatNotAccepted ∧
      decodeBeat .error c b = .reject .beatNotAccepted)

/-- Some words written out from the layouts of R68 and R73 decode to the operations they stand for. -/
def Obligations.SampleWordsDecode : Prop :=
  decodeReq 4096 { write := true, addr := 0x008, wdata := 0x00000015 } = .startHistogram true ∧
  decodeReq 4096 { write := true, addr := 0x008, wdata := 0x00000013 } = .abort true false 1 ∧
  decodeReq 4096 { write := true, addr := 0x008, wdata := 0x000000A1 } = .startInvalidScope8_15 false 10 ∧
  decodeReq 4096 { write := true, addr := 0x00C, wdata := 0x00000300 } = .wrStatus true true false ∧
  decodeReq 4096 { write := false, addr := 0x038, wdata := 0 } = .rdReg 14 ∧
  decodeReq 4096 { write := false, addr := 0x01000200, wdata := 0 } = .rdResult 128 ∧
  decodeBeat .run 3 { data := 0xFF4C0E01, last := true } =
    .ok (.pixWaveformParade { r := 1, g := 14, b := 76, a := 255 } true)

/-! ### Commands -/

/-- A CTRL write with WDATA[1:0] = 0 is CFG with IRQ_EN = WDATA[2] and SCOPE = WDATA[7:4]; it stores them, answers with
err = 0 and changes nothing else, in every state; `irq` follows the new IRQ_EN (R107). -/
def Obligations.CfgStoresIrqEnAndScope : Prop :=
  (∀ (wMax : Nat) (wd : Word), wd.getLsbD 0 = false → wd.getLsbD 1 = false →
    decodeReq wMax { write := true, addr := 0x008, wdata := wd } = .cfg (wd.getLsbD 2) (wd.extractLsb' 4 4)) ∧
  (∀ (s : State) (e : Bool) (c : BitVec 4),
    exec (.cfg e c) s = .next { s with irqEn := e, scope := c, rsp := some { rdata := 0, err := false } } ∧
    State.irq { s with irqEn := e, scope := c, rsp := some { rdata := 0, err := false } } =
      (e && (s.doneIrq || s.errIrq)))

/-- A START of each of the five operations that is not BUSY, with dimensions that are not 0 and, for a waveform, a
width up to W_MAX, begins the frame: the configuration is latched, the cursor, ERR, ERR_INDEX and both IRQ flags are 0,
RESULT_LEN is the length of R39, STATE is CLEAR, nothing else changes, and every counter of the result is 0 (R108). -/
def Obligations.StartBeginsFrame : Prop :=
  ∀ (s : State) (e : Bool), s.busy = false → s.width.toNat ≠ 0 → s.height.toNat ≠ 0 →
    exec (.startHistogram e) s = .next (startedFrame s e 1 768) ∧
    (s.width.toNat ≤ s.caps.toNat →
      exec (.startWaveformLuma e) s = .next (startedFrame s e 2 (256 * s.width.toNat)) ∧
      exec (.startWaveformParade e) s = .next (startedFrame s e 3 (768 * s.width.toNat))) ∧
    exec (.startVectorscopeA e) s = .next (startedFrame s e 4 65536) ∧
    exec (.startVectorscopeB e) s = .next (startedFrame s e 5 65536) ∧
    (∀ (c : BitVec 4) (len i : Nat), i < len → (startedFrame s e c len).cnt.readWord i = 0)

/-- A START with SCOPE 0 or 6 to 15 that is not BUSY ends in ERROR with InvalidScopeType, DETAIL = the SCOPE value,
whatever the dimensions are (R109, R134, R135 check 1, R144). -/
def Obligations.InvalidScopeStartFails : Prop :=
  ∀ (s : State) (e : Bool), s.busy = false →
    exec (.startInvalidScope0 e) s = .next (failedStart s e 0 1 0) ∧
    (∀ c : BitVec 4, c = 6 ∨ c = 7 →
      exec (.startInvalidScope6_7 e c) s = .next (failedStart s e c 1 (BitVec.ofNat 8 c.toNat))) ∧
    (∀ c : BitVec 4, 8 ≤ c.toNat →
      exec (.startInvalidScope8_15 e c) s = .next (failedStart s e c 1 (BitVec.ofNat 8 c.toNat)))

/-- StartCheck: the first check that fails, in the order of R135, gives the error of any START that is not BUSY; if none
fails the START enters CLEAR. HISTOGRAM and the vectorscopes have no width limit. -/
def Obligations.StartChecksInOrder : Prop :=
  ∀ (i : Instr) (s : State) (e : Bool) (c : BitVec 4), startOperands i = some (e, c) → s.busy = false →
    (c = 0 ∨ 6 ≤ c.toNat → exec i s = .next (failedStart s e c 1 (BitVec.ofNat 8 c.toNat))) ∧
    (1 ≤ c.toNat → c.toNat ≤ 5 → s.width.toNat = 0 → exec i s = .next (failedStart s e c 2 0x01)) ∧
    (1 ≤ c.toNat → c.toNat ≤ 5 → s.width.toNat ≠ 0 → s.height.toNat = 0 →
      exec i s = .next (failedStart s e c 2 0x02)) ∧
    (c = 2 ∨ c = 3 → s.width.toNat ≠ 0 → s.height.toNat ≠ 0 → s.caps.toNat < s.width.toNat →
      exec i s = .next (failedStart s e c 3 0x01)) ∧
    (1 ≤ c.toNat → c.toNat ≤ 5 → s.width.toNat ≠ 0 → s.height.toNat ≠ 0 →
      (c = 2 ∨ c = 3 → s.width.toNat ≤ s.caps.toNat) →
      ∃ t, exec i s = .next t ∧ t.seq = .clear ∧ t.errCode = 0 ∧ t.errDetail = 0)

/-- A START of any SCOPE while STATE is CLEAR, RUN or DRAIN only stores IRQ_EN and SCOPE and sets START_IGNORED; the
response has err = 0 (R110). -/
def Obligations.StartWhileBusyIsIgnored : Prop :=
  ∀ (i : Instr) (s : State) (e : Bool) (c : BitVec 4), startOperands i = some (e, c) →
    s.seq = .clear ∨ s.seq = .run ∨ s.seq = .drain →
    exec i s = .next { s with irqEn := e, scope := c, startIgnored := true,
                              rsp := some { rdata := 0, err := false } }

/-- A CTRL write with WDATA[1] = 1 is ABORT, whatever START is, in every state: IRQ_EN and SCOPE are stored, then IDLE, both
IRQ flags and RESULT_LEN 0, `irq` 0, the counters unspecified; k, ERR, ERR_INDEX, ACT_*, START_IGNORED and everything else
unchanged (R111). -/
def Obligations.AbortReturnsToIdle : Prop :=
  (∀ (wMax : Nat) (wd : Word), wd.getLsbD 1 = true →
    decodeReq wMax { write := true, addr := 0x008, wdata := wd } =
      .abort (wd.getLsbD 0) (wd.getLsbD 2) (wd.extractLsb' 4 4)) ∧
  (∀ (s : State) (st e : Bool) (c : BitVec 4),
    exec (.abort st e c) s =
      .next { s with irqEn := e, scope := c, seq := .idle, doneIrq := false, errIrq := false, resultLen := 0,
                     cnt := s.cnt.forget, rsp := some { rdata := 0, err := false } } ∧
    State.irq { s with irqEn := e, scope := c, seq := .idle, doneIrq := false, errIrq := false, resultLen := 0,
                       cnt := s.cnt.forget, rsp := some { rdata := 0, err := false } } = false)

/-! ### Register writes and reads -/

/-- A STATUS write clears exactly the W1C bits whose data bit (8, 9, 10) is 1, ignores every other bit, and changes
nothing else; STATE stays and the response has err = 0 (R70, R112). -/
def Obligations.StatusWriteClearsOnes : Prop :=
  (∀ (s : State) (d e g : Bool),
    exec (.wrStatus d e g) s =
      .next { s with doneIrq := if d then false else s.doneIrq, errIrq := if e then false else s.errIrq,
                     startIgnored := if g then false else s.startIgnored,
                     rsp := some { rdata := 0, err := false } }) ∧
  (∀ (wMax : Nat) (wd : Word),
    decodeReq wMax { write := true, addr := 0x00C, wdata := wd } =
      .wrStatus (wd.getLsbD 8) (wd.getLsbD 9) (wd.getLsbD 10))

/-- A write at 0x010 is WR_WIDTH and at 0x014 WR_HEIGHT; they store the whole word in every state, zero and a width above
W_MAX included, with err = 0; ACT_WIDTH, ACT_HEIGHT and the frame do not change (R71, R113). -/
def Obligations.WidthAndHeightWrites : Prop :=
  ∀ (s : State) (wMax : Nat) (wd : Word),
    decodeReq wMax { write := true, addr := 0x010, wdata := wd } = .wrWidth wd ∧
    decodeReq wMax { write := true, addr := 0x014, wdata := wd } = .wrHeight wd ∧
    exec (.wrWidth wd) s = .next { s with width := wd, rsp := some { rdata := 0, err := false } } ∧
    exec (.wrHeight wd) s = .next { s with height := wd, rsp := some { rdata := 0, err := false } }

/-- A write at 0x000, 0x004 or 0x018 to 0x0FC, aligned, is WR_IGNORED: it changes nothing, and the response has err = 0
(R114). -/
def Obligations.IgnoredWriteChangesNothing : Prop :=
  ∀ (s : State) (wMax : Nat) (off : BitVec 6) (wd : Word), off = 0 ∨ off = 1 ∨ 6 ≤ off.toNat →
    decodeReq wMax { write := true, addr := BitVec.ofNat 32 (4 * off.toNat), wdata := wd } = .wrIgnored off ∧
    exec (.wrIgnored off) s = .next { s with rsp := some { rdata := 0, err := false } }

/-- An aligned read at 0x000 to 0x0FC is RD_REG: it returns the value of R115's table with err = 0 and changes nothing
else. -/
def Obligations.RegisterReadValues : Prop :=
  ∀ (s : State) (wMax : Nat) (off : BitVec 6) (wd : Word), ∃ v : Word,
    decodeReq wMax { write := false, addr := BitVec.ofNat 32 (4 * off.toNat), wdata := wd } = .rdReg off ∧
    exec (.rdReg off) s = .next { s with rsp := some { rdata := v, err := false } } ∧
    (off = 0x0 → v = 0x4D475343) ∧
    (off = 0x1 → v = s.caps) ∧
    (off = 0x2 → v.toNat = 16 * s.scope.toNat + 4 * s.irqEn.toNat) ∧
    (off = 0x3 → v.toNat = s.seq.code.toNat + 8 * s.busy.toNat + 256 * s.doneIrq.toNat + 512 * s.errIrq.toNat
      + 1024 * s.startIgnored.toNat) ∧
    (off = 0x4 → v = s.width) ∧
    (off = 0x5 → v = s.height) ∧
    (off = 0x6 → v.toNat = s.errCode.toNat + 256 * s.errDetail.toNat) ∧
    (off = 0x7 → v.toNat = s.errIndex.toNat % 2 ^ 32) ∧
    (off = 0x8 → v.toNat = s.errIndex.toNat / 2 ^ 32) ∧
    (off = 0x9 → v.toNat = s.k.toNat % 2 ^ 32) ∧
    (off = 0xA → v.toNat = s.k.toNat / 2 ^ 32) ∧
    (off = 0xB → v.toNat = s.actScope.toNat) ∧
    (off = 0xC → v = s.actWidth) ∧
    (off = 0xD → v = s.actHeight) ∧
    (off = 0xE → v = s.resultLen) ∧
    (0xF ≤ off.toNat → v = 0)

/-! ### Result window and bus errors -/

/-- A read at RESULT_BASE + 4i in the result window is RD_RESULT of word i: a bus error outside DONE; in DONE the counter
below RESULT_LEN, and 0 with err = 0 past it; nothing else changes (R127, R128). -/
def Obligations.ResultRead : Prop :=
  ∀ (s : State) (i : BitVec 30) (wd : Word),
    (s.caps.toNat ≤ Config.wMaxLimit → i.toNat < max 65536 (768 * s.caps.toNat) →
      decodeReq s.caps.toNat { write := false, addr := BitVec.ofNat 32 (0x01000000 + 4 * i.toNat), wdata := wd } =
        .rdResult i) ∧
    (s.seq ≠ .done → exec (.rdResult i) s = .next { s with rsp := some { rdata := 0, err := true } }) ∧
    (s.seq = .done → i.toNat < s.resultLen.toNat →
      exec (.rdResult i) s = .next { s with rsp := some { rdata := s.cnt.readWord i.toNat, err := false } }) ∧
    (s.seq = .done → s.resultLen.toNat ≤ i.toNat →
      exec (.rdResult i) s = .next { s with rsp := some { rdata := 0, err := false } })

/-- A write at RESULT_BASE + 4i in the result window is WR_RESULT: a bus error in every state that changes nothing
(R129). -/
def Obligations.ResultWriteIsBusError : Prop :=
  ∀ (s : State) (i : BitVec 30) (wd : Word), s.caps.toNat ≤ Config.wMaxLimit →
    i.toNat < max 65536 (768 * s.caps.toNat) →
    decodeReq s.caps.toNat { write := true, addr := BitVec.ofNat 32 (0x01000000 + 4 * i.toNat), wdata := wd } =
      .wrResult i ∧
    exec (.wrResult i) s = .next { s with rsp := some { rdata := 0, err := true } }

/-- A misaligned and an unmapped access are bus errors: the response has err = 1 and data 0, and no state of the block
changes (R55 cases 1 and 2, R142). -/
def Obligations.BadAddressIsBusError : Prop :=
  ∀ (s : State) (w : Bool) (a : Word),
    exec (.buserrMisaligned w a) s = .next { s with rsp := some { rdata := 0, err := true } } ∧
    exec (.buserrUnmapped w a) s = .next { s with rsp := some { rdata := 0, err := true } }

/-- A transaction gets err = 1 exactly when its address is misaligned, or unmapped, or it writes the result window, or
it reads the result window outside DONE; then its data is 0 and nothing else of the state changes (R55). -/
def Obligations.BusErrorExactlyWhen : Prop :=
  ∀ (s : State) (q : BusReq), s.caps.toNat ≤ Config.wMaxLimit →
    ∃ (t : State) (r : Response), exec (decodeReq s.caps.toNat q) s = .next t ∧ t.rsp = some r ∧
      (r.err = true ↔
        q.addr.toNat % 4 ≠ 0 ∨
        (0x100 ≤ q.addr.toNat ∧ q.addr.toNat < 0x01000000) ∨
        0x01000000 + 4 * max 65536 (768 * s.caps.toNat) ≤ q.addr.toNat ∨
        (q.write = true ∧ 0x01000000 ≤ q.addr.toNat) ∨
        (q.write = false ∧ 0x01000000 ≤ q.addr.toNat ∧ s.seq ≠ .done)) ∧
      (r.err = true → r.rdata = 0 ∧ t = { s with rsp := some r })

/-- No read changes any state of the block, and a repeated read returns the same response (R58). -/
def Obligations.ReadsHaveNoSideEffect : Prop :=
  ∀ (s : State) (q : BusReq) (wMax : Nat), q.write = false →
    ∃ r : Response, exec (decodeReq wMax q) s = .next { s with rsp := some r } ∧
      exec (decodeReq wMax q) { s with rsp := some r } = .next { s with rsp := some r }

/-- Every operation completes: no meaning faults or refuses, and every bus operation is answered in its event
(R142, R163). -/
def Obligations.EveryOperationCompletes : Prop :=
  ∀ (i : Instr) (s : State), ∃ t, exec i s = .next t ∧
    (∀ wMax q, i = decodeReq wMax q → t.rsp ≠ none)

/-! ### Beats -/

/-- PIX_HISTOGRAM in RUN, not malformed and with room in its three counters: words r, 256 + g and 512 + b go up by 1,
nothing else changes, and the last pixel completes the frame (R81, R118 to R120). -/
def Obligations.HistogramBeatCounts : Prop :=
  ∀ (s : State) (p : Pixel) (last : Bool), Legal s → s.seq = .run → s.actScope = 1 →
    (last = true ↔ s.k.toNat + 1 = s.n) →
    (∀ j ∈ [p.r.toNat, 256 + p.g.toNat, 512 + p.b.toNat], s.cnt.readWord j ≠ 0xFFFFFFFF) →
    ∃ t, exec (.pixHistogram p last) s = .next t ∧
      countedBeat s t [p.r.toNat, 256 + p.g.toNat, 512 + p.b.toNat] last

/-- PIX_WAVEFORM_LUMA likewise: the cell of row 255 - luma709 in column k mod W goes up by 1 (R85, R87 to R89). -/
def Obligations.LumaBeatCounts : Prop :=
  ∀ (s : State) (p : Pixel) (last : Bool) (cell : Nat), Legal s → s.seq = .run → s.actScope = 2 →
    (last = true ↔ s.k.toNat + 1 = s.n) →
    cell = (255 - (2126 * p.r.toNat + 7152 * p.g.toNat + 722 * p.b.toNat + 5000) / 10000) * s.actWidth.toNat
      + s.k.toNat % s.actWidth.toNat →
    s.cnt.readWord cell ≠ 0xFFFFFFFF →
    ∃ t, exec (.pixWaveformLuma p last) s = .next t ∧ countedBeat s t [cell] last

/-- PIX_WAVEFORM_PARADE likewise: one cell in each of the planes r, g, b (R87, R88, R90). -/
def Obligations.ParadeBeatCounts : Prop :=
  ∀ (s : State) (p : Pixel) (last : Bool) (cells : List Nat), Legal s → s.seq = .run → s.actScope = 3 →
    (last = true ↔ s.k.toNat + 1 = s.n) →
    cells = [(255 - p.r.toNat) * s.actWidth.toNat + s.k.toNat % s.actWidth.toNat,
      256 * s.actWidth.toNat + (255 - p.g.toNat) * s.actWidth.toNat + s.k.toNat % s.actWidth.toNat,
      512 * s.actWidth.toNat + (255 - p.b.toNat) * s.actWidth.toNat + s.k.toNat % s.actWidth.toNat] →
    (∀ j ∈ cells, s.cnt.readWord j ≠ 0xFFFFFFFF) →
    ∃ t, exec (.pixWaveformParade p last) s = .next t ∧ countedBeat s t cells last

/-- PIX_VECTORSCOPE_A likewise: the cell of column x = floor((635 DV + 1285000000) / 10^7) and row
y = floor((12850000000 - 5389 DU) / 10^8) goes up by 1; no pixel is discarded (R94, R96, R97). -/
def Obligations.VectorscopeABeatCounts : Prop :=
  ∀ (s : State) (p : Pixel) (last : Bool) (lnum : Int) (cell : Nat), Legal s → s.seq = .run → s.actScope = 4 →
    (last = true ↔ s.k.toNat + 1 = s.n) →
    lnum = 2126 * p.r.toNat + 7152 * p.g.toNat + 722 * p.b.toNat →
    (cell : Int) = (12850000000 - 5389 * (10000 * p.b.toNat - lnum)) / 100000000 * 256
      + (635 * (10000 * p.r.toNat - lnum) + 1285000000) / 10000000 →
    s.cnt.readWord cell ≠ 0xFFFFFFFF →
    ∃ t, exec (.pixVectorscopeA p last) s = .next t ∧ countedBeat s t [cell] last

/-- PIX_VECTORSCOPE_B likewise: U and V are b - Y and r - Y rounded half up, the cell is of column
x = floor(128 (U + 255) / 255) and row y = floor(128 (V + 255) / 255); no pixel is discarded (R96, R98, R100). -/
def Obligations.VectorscopeBBeatCounts : Prop :=
  ∀ (s : State) (p : Pixel) (last : Bool) (ynum u v : Int) (cell : Nat), Legal s → s.seq = .run → s.actScope = 5 →
    (last = true ↔ s.k.toNat + 1 = s.n) →
    ynum = 299 * p.r.toNat + 587 * p.g.toNat + 114 * p.b.toNat →
    u = (1000 * p.b.toNat - ynum + 500) / 1000 → v = (1000 * p.r.toNat - ynum + 500) / 1000 →
    (cell : Int) = 128 * (v + 255) / 255 * 256 + 128 * (u + 255) / 255 →
    s.cnt.readWord cell ≠ 0xFFFFFFFF →
    ∃ t, exec (.pixVectorscopeB p last) s = .next t ∧ countedBeat s t [cell] last

/-- The errors of a beat in RUN, the same for the five operations: SHORT_FRAME and LONG_FRAME first, whatever the
counters hold; COUNTER_OVERFLOW only when neither holds, on the beat's own increment list; each with ERR, ERR_INDEX = the
beat's cursor, ERR_IRQ, and ERROR if the beat has s_last, else DRAIN; the counters become unspecified and nothing else
changes (R118, R119, R136, R137). -/
def Obligations.BeatErrorsInPriorityOrder : Prop :=
  ∀ (i : Instr) (s : State) (cells : List Nat) (last : Bool), runBeat s i = some (cells, last) → s.seq = .run →
    (last = true → s.k.toNat + 1 < s.n → exec i s = .next (erredBeat s 2 0x03 last)) ∧
    (last = false → s.k.toNat + 1 = s.n → exec i s = .next (erredBeat s 2 0x04 last)) ∧
    ((last = true ↔ s.k.toNat + 1 = s.n) → (∃ j ∈ cells, s.cnt.readWord j = 0xFFFFFFFF) →
      exec i s = .next (erredBeat s 3 0x02 last))

/-- A beat in DRAIN is PIX_DRAIN: the cursor advances modulo 2^64, s_last ends the drain in ERROR, the data is ignored and
nothing else changes (R121). -/
def Obligations.DrainBeat : Prop :=
  ∀ (s : State) (b : Beat) (p : Pixel), s.seq = .drain →
    decodeBeat s.seq s.actScope b = .ok (.pixDrain (pixelOfData b.data) b.last) ∧
    exec (.pixDrain p false) s = .next { s with k := s.k + 1 } ∧
    exec (.pixDrain p true) s = .next { s with k := s.k + 1, seq := .error } ∧
    (s.k + 1).toNat = (s.k.toNat + 1) % 2 ^ 64

/-- In RUN the increment list of the operation that ACT_SCOPE selects has 1 to 3 distinct words, each below RESULT_LEN
and specified: no pixel is dropped and no counter outside the result is touched (R86, R96, R119). -/
def Obligations.BeatCellsDistinctAndInResult : Prop :=
  ∀ (s : State) (b : Beat) (i : Instr), Legal s → s.seq = .run → decodeBeat .run s.actScope b = .ok i →
    ∃ cells, runBeat s i = some (cells, b.last) ∧ cells.Nodup ∧ 1 ≤ cells.length ∧ cells.length ≤ 3 ∧
      ∀ j ∈ cells, j < s.resultLen.toNat ∧ j < s.cnt.cleared

/-- Alpha has no effect on any beat (R52, R73, R81). -/
def Obligations.AlphaIsIgnored : Prop :=
  ∀ (s : State) (p : Pixel) (a : Byte) (last : Bool),
    exec (.pixHistogram { p with a := a } last) s = exec (.pixHistogram p last) s ∧
    exec (.pixWaveformLuma { p with a := a } last) s = exec (.pixWaveformLuma p last) s ∧
    exec (.pixWaveformParade { p with a := a } last) s = exec (.pixWaveformParade p last) s ∧
    exec (.pixVectorscopeA { p with a := a } last) s = exec (.pixVectorscopeA p last) s ∧
    exec (.pixVectorscopeB { p with a := a } last) s = exec (.pixVectorscopeB p last) s ∧
    exec (.pixDrain { p with a := a } last) s = exec (.pixDrain p last) s

/-! ### Colour arithmetic -/

/-- luma709 is 0 to 255 and is the exact luma rounded half up: 10000 luma709 is within (-5000, 5000] of Lnum (R85). -/
def Obligations.LumaIsRoundedHalfUp : Prop :=
  ∀ p : Pixel, 0 ≤ luma709 p ∧ luma709 p ≤ 255 ∧
    10000 * luma709 p - 5000 ≤ 2126 * p.r.toNat + 7152 * p.g.toNat + 722 * p.b.toNat ∧
    (2126 * p.r.toNat + 7152 * p.g.toNat + 722 * p.b.toNat : Int) < 10000 * luma709 p + 5000

/-- The coordinates of policy A lie in 1 to 255 for every pixel, so it never discards one (R94). -/
def Obligations.PolicyARange : Prop :=
  ∀ p : Pixel, (1 ≤ xA p ∧ xA p ≤ 255) ∧ (1 ≤ yA p ∧ yA p ≤ 255) ∧
    policyACells p = [(yA p).toNat * 256 + (xA p).toNat]

/-- The ranges of policy B: U in -226 to 226, V in -179 to 179, x in 14 to 241, y in 38 to 217, so it never discards a
pixel (R98). -/
def Obligations.PolicyBRange : Prop :=
  ∀ p : Pixel, (-226 ≤ chromaU p ∧ chromaU p ≤ 226) ∧ (-179 ≤ chromaV p ∧ chromaV p ≤ 179) ∧
    (14 ≤ xB p ∧ xB p ≤ 241) ∧ (38 ≤ yB p ∧ yB p ≤ 217) ∧
    policyBCells p = [(yB p).toNat * 256 + (xB p).toNat]

/-- A pixel with r = g = b has U = V = 0 in both policies and lands in cell (128, 128), word 32896 (R102). -/
def Obligations.AchromaticPixelsAtCentre : Prop :=
  ∀ v a : Byte,
    diffU { r := v, g := v, b := v, a := a } = 0 ∧ diffV { r := v, g := v, b := v, a := a } = 0 ∧
    chromaU { r := v, g := v, b := v, a := a } = 0 ∧ chromaV { r := v, g := v, b := v, a := a } = 0 ∧
    policyACells { r := v, g := v, b := v, a := a } = [32896] ∧
    policyBCells { r := v, g := v, b := v, a := a } = [32896]

/-! ### The step -/

/-- A step runs the decoded operation: the host's next request when the schedule names the host, and the source's next
beat when it names the source and the beat is accepted; around `exec` it takes the event from its agent, advances the
schedule and drops the previous response (R13, R65; the inputs are the model's, log entry 5). -/
def Obligations.StepRunsTheDecodedOperation : Prop :=
  (∀ (s : State) (q : BusReq) (qs : List BusReq) (ts : List Turn), s.schedule = .bus :: ts → s.hostReqs = q :: qs →
    step s = exec (decodeReq s.caps.toNat q) { s with rsp := none, schedule := ts, hostReqs := qs }) ∧
  (∀ (s : State) (b : Beat) (bs : List Beat) (ts : List Turn) (i : Instr), s.schedule = .beat :: ts →
    s.source = b :: bs → decodeBeat s.seq s.actScope b = .ok i →
    step s = exec i { s with rsp := none, schedule := ts, source := bs })

/-- With no schedule, the one event that can happen is the next one (R60; the model's choice, log entry 6), and where none
can happen the block waits in its state (log entry 7). -/
def Obligations.TheOnlyEnabledEventHappens : Prop :=
  (∀ (s : State) (q : BusReq) (qs : List BusReq), s.schedule = [] → s.hostReqs = q :: qs → s.source = [] →
    s.seq ≠ .clear → step s = exec (decodeReq s.caps.toNat q) { s with rsp := none, hostReqs := qs }) ∧
  (∀ (s : State) (b : Beat) (bs : List Beat) (i : Instr), s.schedule = [] → s.hostReqs = [] → s.source = b :: bs →
    decodeBeat s.seq s.actScope b = .ok i → step s = exec i { s with rsp := none, source := bs }) ∧
  (∀ s : State, s.schedule = [] → s.hostReqs = [] → s.seq = .clear →
    step s = .next { s with rsp := none, seq := .run }) ∧
  (∀ s : State, s.schedule = [] → s.hostReqs = [] → s.source = [] → s.seq ≠ .clear →
    step s = .next { s with rsp := none })

/-- A beat offered in IDLE, CLEAR, DONE or ERROR is not accepted: it stays with the source (R44). That the turn is a step
of its own, which drops the previous response and uses up its place in the schedule and changes nothing else, is the
model's choice (DESIGN CHOICE, log entry 7; the response: log entry 8). -/
def Obligations.BeatWaitsOutsideRunAndDrain : Prop :=
  ∀ (s : State) (ts : List Turn), s.schedule = .beat :: ts → s.seq ≠ .run → s.seq ≠ .drain →
    step s = .next { s with rsp := none, schedule := ts }

/-- CLEAR_DONE is enabled while STATE is CLEAR, enters RUN and changes nothing else of the block (R116). That its turn
outside CLEAR is a waiting step, which drops the previous response and uses up its place in the schedule, is the model's
choice (DESIGN CHOICE, log entry 7; the response: log entry 8). -/
def Obligations.ClearDoneEntersRun : Prop :=
  ∀ (s : State) (ts : List Turn), s.schedule = .clear :: ts →
    (s.seq = .clear → step s = .next { s with rsp := none, schedule := ts, seq := .run }) ∧
    (s.seq ≠ .clear → step s = .next { s with rsp := none, schedule := ts })

/-- The Reset event sets every register to its reset value, leaves the counters unspecified and W_MAX as it is; the beats
stay with the source; a request taken and not answered is lost without a response (R151, R152). -/
def Obligations.ResetEventResetsEverything : Prop :=
  ∀ (s : State) (ts : List Turn) (lost : Bool), s.schedule = .reset lost :: ts →
    step s = .next
      { seq := .idle, irqEn := false, scope := 0, doneIrq := false, errIrq := false, startIgnored := false, width := 0,
        height := 0, errCode := 0, errDetail := 0, errIndex := 0, k := 0, actScope := 0, actWidth := 0, actHeight := 0,
        resultLen := 0, caps := s.caps, cnt := s.cnt.forget, rsp := none,
        hostReqs := if lost then s.hostReqs.tail else s.hostReqs, source := s.source, schedule := ts,
        freeTurns := s.freeTurns }

/-- The reset values of R46, on a block of any W_MAX: every register, both outputs and the response port, with no counter
specified. -/
def Obligations.ResetValues : Prop :=
  ∀ w : Word,
    (State.resetWith w).seq = .idle ∧ (State.resetWith w).busy = false ∧ (State.resetWith w).irqEn = false ∧
    (State.resetWith w).scope = 0 ∧ (State.resetWith w).doneIrq = false ∧ (State.resetWith w).errIrq = false ∧
    (State.resetWith w).startIgnored = false ∧ (State.resetWith w).width = 0 ∧ (State.resetWith w).height = 0 ∧
    (State.resetWith w).errCode = 0 ∧ (State.resetWith w).errDetail = 0 ∧ (State.resetWith w).errIndex = 0 ∧
    (State.resetWith w).k = 0 ∧ (State.resetWith w).actScope = 0 ∧ (State.resetWith w).actWidth = 0 ∧
    (State.resetWith w).actHeight = 0 ∧ (State.resetWith w).resultLen = 0 ∧
    (State.resetWith w).readReg 0 = 0x4D475343 ∧ (State.resetWith w).readReg 1 = w ∧
    (State.resetWith w).cnt.cleared = 0 ∧ (State.resetWith w).irq = false ∧ (State.resetWith w).mayAccept = false ∧
    (State.resetWith w).rsp = none

/-- A broken handshake is refused: the spec gives the block no required behaviour, and the run is treated as failed
(R160 duties 4 and 5; the model's choice, log entry 10). -/
def Obligations.BrokenHandshakeIsRefused : Prop :=
  ∀ (s : State) (ts : List Turn),
    (s.schedule = .hostBreach :: ts → step s = .refused .hostHandshakeBroken) ∧
    (s.schedule = .sourceBreach :: ts → step s = .refused .sourceHandshakeBroken)

/-- From a legal state, a step whose schedule names no broken handshake always answers a next state: the block never
halts (R163). -/
def Obligations.LegalStepNeverStops : Prop :=
  ∀ s : State, Legal s → (∀ t ∈ s.schedule, t ≠ .hostBreach ∧ t ≠ .sourceBreach) → ∃ t, step s = .next t

/-- The word of a well-formed operation, placed where the next event is fetched, is run by the very next step: a request on
the state with only the previous response dropped, a beat on that state with the STATE and ACT_SCOPE that select it
(log entries 5, 8 and 12). -/
def Obligations.PlacedWordRunsNext : Prop :=
  ∀ (s : State) (i : Instr), 1 ≤ s.caps.toNat → s.caps.toNat ≤ Config.wMaxLimit → i.wellFormed s.caps.toNat = true →
    step (s.withFetchWord (tableBits (encode i)) (tableWord (encode i))) = exec i (s.runningPlaced (encode i))

/-! ### Invariants and rules of the whole block -/

/-- The reset state of a block of any W_MAX in 1 to 1392640 is legal, and its planes and columns are counted. -/
def Obligations.ResetIsLegal : Prop :=
  ∀ w : Word, 1 ≤ w.toNat → w.toNat ≤ Config.wMaxLimit →
    Legal (State.resetWith w) ∧ PlanesCounted (State.resetWith w) ∧ ColumnsCounted (State.resetWith w)

/-- Every step keeps the counter store in canonical form, from every state. The form is the model's own way of holding the
store (DEDUCED, log entry 3); in states that no run reaches it is kept because a write to an unspecified word is dropped,
the model's choice (DESIGN CHOICE, log entry 4). -/
def Obligations.StepKeepsStoreCanonical : Prop :=
  ∀ s t : State, s.cnt.wf = true → step s = .next t → t.cnt.wf = true

/-- Every step keeps `Legal`: what the rules say of the registers together holds along every run (R21 to R46, R134 to
R141). -/
def Obligations.StepKeepsLegal : Prop := ∀ s t : State, Legal s → step s = .next t → Legal t

/-- Every step keeps the count, whatever the host does between the beats: every accepted beat of the frame is counted
exactly once in each plane of the result, and each counter is exactly the number of the beats accepted since START that
R83, R92 and R101 assign to it, in CLEAR, RUN and DONE; with no beat accepted yet this holds in CLEAR. -/
def Obligations.StepKeepsPlanesCounted : Prop :=
  (∀ s t : State, Legal s → PlanesCounted s → step s = .next t → PlanesCounted t) ∧
  (∀ s : State, Legal s → s.seq = .clear → CountedExactly s []) ∧
  (∀ (s t : State) (past : List Beat), Legal s → CountedExactly s past → step s = .next t →
    CountedExactly t (pastAfter s t past))

/-- Every step keeps the count of each waveform column: column x holds the beats k with k mod W = x (R88, R92). -/
def Obligations.StepKeepsColumnsCounted : Prop :=
  ∀ s t : State, Legal s → ColumnsCounted s → step s = .next t → ColumnsCounted t

/-- In DONE, with N = ACT_WIDTH × ACT_HEIGHT: each histogram channel, the luma grid, each parade plane and the
vectorscope grid sum to N, and each waveform column sums to ACT_HEIGHT (R132, R83, R92, R101). -/
def Obligations.DoneResultSums : Prop :=
  ∀ s : State, Legal s → PlanesCounted s → ColumnsCounted s → s.seq = .done →
    (s.actScope = 1 → ∀ c < 3, s.cnt.sumFrom (256 * c) 1 256 = s.actWidth.toNat * s.actHeight.toNat) ∧
    (s.actScope = 2 →
      s.cnt.sumFrom 0 1 (256 * s.actWidth.toNat) = s.actWidth.toNat * s.actHeight.toNat ∧
      ∀ x < s.actWidth.toNat, s.cnt.sumFrom x s.actWidth.toNat 256 = s.actHeight.toNat) ∧
    (s.actScope = 3 → ∀ p < 3,
      s.cnt.sumFrom (p * 256 * s.actWidth.toNat) 1 (256 * s.actWidth.toNat) =
        s.actWidth.toNat * s.actHeight.toNat ∧
      ∀ x < s.actWidth.toNat, s.cnt.sumFrom (p * 256 * s.actWidth.toNat + x) s.actWidth.toNat 256 = s.actHeight.toNat) ∧
    (s.actScope = 4 ∨ s.actScope = 5 → s.cnt.sumFrom 0 1 65536 = s.actWidth.toNat * s.actHeight.toNat)

/-- The result of a frame whose beats are accepted one after another from CLEAR with no host transaction between them, for
every operation: with as many beats as pixels, a DONE holds in every counter exactly the number of pixels that R83, R92
and R101 assign to it; and a well-formed frame of fewer than 2^32 pixels does reach DONE (R117, R118). With host
transactions between the beats StepKeepsPlanesCounted says the same of every step. -/
def Obligations.DoneFrameCountsEveryPixel : Prop :=
  ∀ (s t : State) (beats : List Beat), Legal s → s.seq = .clear → beats.length = s.actWidth.toNat * s.actHeight.toNat →
    t = acceptBeats beats s.clearDone →
    ((∀ q ∈ beats.zipIdx, (q.1.last = true ↔ q.2 + 1 = beats.length)) → beats.length < 2 ^ 32 → t.seq = .done) ∧
    (t.seq = .done →
      (s.actScope = 1 → ∀ v < 256,
        (t.cnt.readWord v).toNat = pixelsWith beats (fun _ p => p.r.toNat == v) ∧
        (t.cnt.readWord (256 + v)).toNat = pixelsWith beats (fun _ p => p.g.toNat == v) ∧
        (t.cnt.readWord (512 + v)).toNat = pixelsWith beats (fun _ p => p.b.toNat == v)) ∧
      (s.actScope = 2 → ∀ x < s.actWidth.toNat, ∀ v < 256,
        (t.cnt.readWord ((255 - v) * s.actWidth.toNat + x)).toNat =
          pixelsWith beats (fun k p => k % s.actWidth.toNat == x && luma709 p == v)) ∧
      (s.actScope = 3 → ∀ x < s.actWidth.toNat, ∀ v < 256,
        (t.cnt.readWord ((255 - v) * s.actWidth.toNat + x)).toNat =
          pixelsWith beats (fun k p => k % s.actWidth.toNat == x && p.r.toNat == v) ∧
        (t.cnt.readWord (256 * s.actWidth.toNat + (255 - v) * s.actWidth.toNat + x)).toNat =
          pixelsWith beats (fun k p => k % s.actWidth.toNat == x && p.g.toNat == v) ∧
        (t.cnt.readWord (512 * s.actWidth.toNat + (255 - v) * s.actWidth.toNat + x)).toNat =
          pixelsWith beats (fun k p => k % s.actWidth.toNat == x && p.b.toNat == v)) ∧
      (s.actScope = 4 → ∀ x < 256, ∀ y < 256,
        (t.cnt.readWord (y * 256 + x)).toNat = pixelsWith beats (fun _ p => xA p == x && yA p == y)) ∧
      (s.actScope = 5 → ∀ x < 256, ∀ y < 256,
        (t.cnt.readWord (y * 256 + x)).toNat = pixelsWith beats (fun _ p => xB p == x && yB p == y)))

/-- The sequencer makes only the transitions that R23 lists, from every state. -/
def Obligations.SequencerTransitions : Prop := ∀ s t : State, step s = .next t → seqMay s.seq t.seq = true

/-- While STATE stays DONE, no step changes the result: the counters, RESULT_LEN, ACT_SCOPE, ACT_WIDTH and ACT_HEIGHT stay
as they are, and DONE is left only for CLEAR, ERROR or IDLE (R60, R131). -/
def Obligations.ResultFrozenInDone : Prop :=
  ∀ s t : State, s.seq = .done → step s = .next t →
    (t.seq = .done ∧ t.cnt = s.cnt ∧ t.resultLen = s.resultLen ∧ t.actScope = s.actScope ∧
      t.actWidth = s.actWidth ∧ t.actHeight = s.actHeight) ∨
    t.seq = .clear ∨ t.seq = .error ∨ t.seq = .idle

/-- ACT_SCOPE, ACT_WIDTH and ACT_HEIGHT are written only by a START that is not ignored, which copies them from SCOPE,
WIDTH and HEIGHT; no other operation writes them (R34, R35, R42). -/
def Obligations.OnlyStartLatchesConfiguration : Prop :=
  ∀ (i : Instr) (s t : State), exec i s = .next t →
    (startOperands i = none ∨ s.busy = true →
      t.actScope = s.actScope ∧ t.actWidth = s.actWidth ∧ t.actHeight = s.actHeight) ∧
    (∀ e c, startOperands i = some (e, c) → s.busy = false →
      t.actScope = c ∧ t.actWidth = s.width ∧ t.actHeight = s.height)

/-- START_IGNORED, once set, is cleared by no operation but a STATUS write with bit 10 = 1: not by START, ABORT or the
end of a frame (R29, R110). -/
def Obligations.StartIgnoredIsSticky : Prop :=
  ∀ (i : Instr) (s t : State), exec i s = .next t → s.startIgnored = true → (∀ d e, i ≠ .wrStatus d e true) →
    t.startIgnored = true

/-- `irq` is IRQ_EN and (DONE_IRQ or ERR_IRQ); at most one of the two flags is 1 in a legal state (R41, R141). -/
def Obligations.InterruptSources : Prop :=
  ∀ s : State, Legal s →
    (s.irq = true ↔ s.irqEn = true ∧ (s.doneIrq = true ∨ s.errIrq = true)) ∧
    ¬(s.doneIrq = true ∧ s.errIrq = true)

/-- Outside DONE no response depends on the counters: two states that differ only in the counter store answer every
operation alike, so a request that failed or is not complete exposes no count (R124). -/
def Obligations.NoCountIsReadableOutsideDone : Prop :=
  ∀ (i : Instr) (s t t' : State) (m : Memory), s.seq ≠ .done → exec i s = .next t →
    exec i { s with cnt := m } = .next t' → t.rsp = t'.rsp ∧
      (∀ j, i = .rdResult j → t.rsp = some { rdata := 0, err := true })

/-- The end state of a request is a function of the latched configuration and the beats: a successful START from any two
states with the same WIDTH and HEIGHT gives the same frame; every beat operation and CLEAR_DONE, done on both, keeps two
frames the same; and so does a host transaction that is no START and no ABORT, done on one of them only, but that a STATUS
write may clear an interrupt flag there (R125). -/
def Obligations.FrameDependsOnlyOnConfigAndBeats : Prop :=
  (∀ (i : Instr) (s s' t t' : State), startOperands i ≠ none → s.busy = false → s'.busy = false →
    s.width = s'.width → s.height = s'.height → exec i s = .next t → exec i s' = .next t' →
    t.seq = .clear → t'.seq = .clear → SameFrame t t') ∧
  (∀ (b : Beat) (i : Instr) (s s' t t' : State), Legal s → Legal s' → SameFrame s s' →
    decodeBeat s.seq s.actScope b = .ok i → exec i s = .next t → exec i s' = .next t' → SameFrame t t') ∧
  (∀ (b : Beat) (i : Instr) (s s' t t' : State), Legal s → Legal s' → SameRequest s s' →
    decodeBeat s.seq s.actScope b = .ok i → exec i s = .next t → exec i s' = .next t' → SameRequest t t') ∧
  (∀ s s' : State, (SameFrame s s' → SameFrame s.clearDone s'.clearDone) ∧
    (SameRequest s s' → SameRequest s.clearDone s'.clearDone)) ∧
  (∀ (q : BusReq) (wMax : Nat) (s s' t : State), startOperands (decodeReq wMax q) = none →
    (∀ st e c, decodeReq wMax q ≠ .abort st e c) → exec (decodeReq wMax q) s = .next t →
    (SameRequest s s' → SameRequest t s') ∧
    (SameFrame s s' → (∀ d e g, decodeReq wMax q ≠ .wrStatus d e g) → SameFrame t s'))
end

