-- ==== Sys2Proof/Laws/Memory.lean ====
section
/-! SUPPORT. The laws of the counter store: read after write, the canonical form, words, increments and sums. -/

namespace Sys2Proof.Machine

/-! ### Cells -/

@[simp] theorem findCell_nil (a : Nat) : findCell a [] = none := rfl

theorem findCell_cons (a c : Nat) (x : Byte) (t : List Host.Cell) :
    findCell a ((c, x) :: t) = if a = c then some x else findCell a t := rfl

/-- The parts of the canonical form at the head of a list. -/
theorem cellsFrom_cons {top lo c : Nat} {x : Byte} {t : List Host.Cell} :
    cellsFrom top lo ((c, x) :: t) = true ↔ lo ≤ c ∧ c < top ∧ x ≠ 0 ∧ cellsFrom top (c + 1) t = true := by
  simp [cellsFrom, and_assoc]

/-- Nothing is listed below where the cells begin. -/
theorem findCell_below {top : Nat} {cs : List Host.Cell} :
    ∀ {lo a : Nat}, cellsFrom top lo cs = true → a < lo → findCell a cs = none := by
  induction cs with
  | nil => intros; rfl
  | cons h t ih =>
    obtain ⟨c, x⟩ := h
    intro lo a hw ha
    obtain ⟨h1, -, -, h4⟩ := cellsFrom_cons.1 hw
    rw [findCell_cons, if_neg (by omega)]
    exact ih h4 (by omega)

theorem cellsFrom_mono {top : Nat} {cs : List Host.Cell} {lo lo' : Nat} (h : cellsFrom top lo cs = true)
    (hle : lo' ≤ lo) : cellsFrom top lo' cs = true := by
  cases cs with
  | nil => rfl
  | cons hd t =>
    obtain ⟨c, x⟩ := hd
    obtain ⟨h1, h2, h3, h4⟩ := cellsFrom_cons.1 h
    exact cellsFrom_cons.2 ⟨by omega, h2, h3, h4⟩

theorem findCell_putCell_other {a c : Nat} (b : Byte) (h : c ≠ a) (cs : List Host.Cell) :
    findCell c (putCell a b cs) = findCell c cs := by
  induction cs with
  | nil =>
    unfold putCell
    split <;> simp [findCell, h]
  | cons hd t ih =>
    obtain ⟨d, x⟩ := hd
    unfold putCell
    split
    · split <;> simp [findCell, h]
    · split
      · subst d
        split <;> simp [findCell, h]
      · simp [findCell, ih]

theorem findCell_putCell_same {top a : Nat} (b : Byte) {cs : List Host.Cell} :
    ∀ {lo : Nat}, cellsFrom top lo cs = true → findCell a (putCell a b cs) = if b = 0 then none else some b := by
  induction cs with
  | nil =>
    intro lo _
    unfold putCell
    split <;> simp [findCell]
  | cons hd t ih =>
    obtain ⟨d, x⟩ := hd
    intro lo hw
    obtain ⟨h1, -, -, h4⟩ := cellsFrom_cons.1 hw
    unfold putCell
    split
    · split
      · rw [findCell_cons, if_neg (by omega)]
        exact findCell_below h4 (by omega)
      · simp [findCell]
    · split
      · subst d
        split
        · exact findCell_below h4 (by omega)
        · simp [findCell]
      · rw [findCell_cons, if_neg (by assumption)]
        exact ih h4

theorem cellsFrom_putCell {top a : Nat} {b : Byte} (hb : a < top) {cs : List Host.Cell} :
    ∀ {lo : Nat}, cellsFrom top lo cs = true → lo ≤ a → cellsFrom top lo (putCell a b cs) = true := by
  induction cs with
  | nil =>
    intro lo _ hlo
    unfold putCell
    split
    · rfl
    · exact cellsFrom_cons.2 ⟨hlo, hb, by assumption, rfl⟩
  | cons hd t ih =>
    obtain ⟨d, x⟩ := hd
    intro lo hw hlo
    obtain ⟨h1, h2, h3, h4⟩ := cellsFrom_cons.1 hw
    unfold putCell
    split
    · split
      · exact hw
      · exact cellsFrom_cons.2 ⟨hlo, hb, by assumption, cellsFrom_cons.2 ⟨by omega, h2, h3, h4⟩⟩
    · split
      · subst d
        split
        · exact cellsFrom_mono h4 (by omega)
        · exact cellsFrom_cons.2 ⟨hlo, hb, by assumption, h4⟩
      · exact cellsFrom_cons.2 ⟨h1, h2, h3, ih h4 (by omega)⟩

/-! ### Bytes -/

@[simp] theorem Memory.write_cleared (m : Memory) (a : Nat) (b : Byte) : (m.write a b).cleared = m.cleared := by
  unfold Memory.write; split <;> rfl

@[simp] theorem Memory.write_epoch (m : Memory) (a : Nat) (b : Byte) : (m.write a b).epoch = m.epoch := by
  unfold Memory.write; split <;> rfl

@[simp] theorem Memory.write_unlisted (m : Memory) (a c : Nat) (b : Byte) :
    (m.write a b).unlisted c = m.unlisted c := by
  simp [Memory.unlisted]

/-- A write keeps the canonical form. -/
theorem Memory.write_wf {m : Memory} (h : m.wf = true) (a : Nat) (b : Byte) : (m.write a b).wf = true := by
  unfold Memory.write
  split
  · exact cellsFrom_putCell (by assumption) h (Nat.zero_le a)
  · exact h

/-- A byte that is written reads as written, in a word that START zeroed. -/
theorem Memory.read_write_same {m : Memory} (h : m.wf = true) {a : Nat} (ha : a < 4 * m.cleared) (b : Byte) :
    (m.write a b).read a = b := by
  have hf := findCell_putCell_same (a := a) b h
  simp only [Memory.read, Memory.write_unlisted]
  simp only [Memory.write, ha, if_true, hf]
  by_cases hb : b = 0
  · rw [if_pos hb, hb]
    simp [Memory.unlisted, ha]
  · rw [if_neg hb]
    rfl

/-- A write leaves every other byte alone. -/
theorem Memory.read_write_other (m : Memory) {a c : Nat} (b : Byte) (h : c ≠ a) : (m.write a b).read c = m.read c := by
  simp only [Memory.read, Memory.write_unlisted]
  unfold Memory.write
  split
  · simp [findCell_putCell_other b h]
  · rfl

/-! ### Words -/

@[simp] theorem Memory.writeWord_cleared (m : Memory) (i : Nat) (v : Word) :
    (m.writeWord i v).cleared = m.cleared := by
  simp [Memory.writeWord]

@[simp] theorem Memory.writeWord_epoch (m : Memory) (i : Nat) (v : Word) : (m.writeWord i v).epoch = m.epoch := by
  simp [Memory.writeWord]

theorem Memory.writeWord_wf {m : Memory} (h : m.wf = true) (i : Nat) (v : Word) : (m.writeWord i v).wf = true :=
  Memory.write_wf (Memory.write_wf (Memory.write_wf (Memory.write_wf h _ _) _ _) _ _) _ _

/-- A word that is not specified keeps its free contents. -/
theorem Memory.writeWord_unspecified (m : Memory) {i : Nat} (v : Word) (h : m.cleared ≤ i) : m.writeWord i v = m := by
  have hw : ∀ (a : Nat) (b : Byte), 4 * m.cleared ≤ a → m.write a b = m := by
    intro a b ha
    simp [Memory.write, Nat.not_lt.2 ha]
  unfold Memory.writeWord
  rw [hw _ _ (by omega), hw _ _ (by omega), hw _ _ (by omega), hw _ _ (by omega)]

/-- A word write changes only the four bytes of that word. -/
theorem Memory.read_writeWord_other (m : Memory) {i a : Nat} (v : Word) (h : a / 4 ≠ i) :
    (m.writeWord i v).read a = m.read a := by
  unfold Memory.writeWord
  rw [Memory.read_write_other _ _ (by omega), Memory.read_write_other _ _ (by omega),
    Memory.read_write_other _ _ (by omega), Memory.read_write_other _ _ (by omega)]

theorem Memory.readWord_writeWord_other (m : Memory) {i j : Nat} (v : Word) (h : j ≠ i) :
    (m.writeWord i v).readWord j = m.readWord j := by
  unfold Memory.readWord
  rw [Memory.read_writeWord_other _ _ (by omega), Memory.read_writeWord_other _ _ (by omega),
    Memory.read_writeWord_other _ _ (by omega), Memory.read_writeWord_other _ _ (by omega)]

theorem bytes_append (v : Word) :
    v.extractLsb' 24 8 ++ v.extractLsb' 16 8 ++ v.extractLsb' 8 8 ++ v.extractLsb' 0 8 = v := by
  ext i hi
  simp only [BitVec.getElem_append, BitVec.getElem_extractLsb']
  split
  · simp [BitVec.getLsbD_eq_getElem hi]
  · split
    · rw [show 8 + (i - 8) = i by omega, BitVec.getLsbD_eq_getElem hi]
    · split
      · rw [show 16 + (i - 8 - 8) = i by omega, BitVec.getLsbD_eq_getElem hi]
      · rw [show 24 + (i - 8 - 8 - 8) = i by omega, BitVec.getLsbD_eq_getElem hi]

/-- A word that is written reads as written, where START zeroed it. -/
theorem Memory.readWord_writeWord_same {m : Memory} (h : m.wf = true) {i : Nat} (hi : i < m.cleared) (v : Word) :
    (m.writeWord i v).readWord i = v := by
  have e3 : (m.writeWord i v).read (4 * i + 3) = v.extractLsb' 24 8 :=
    Memory.read_write_same (Memory.write_wf (Memory.write_wf (Memory.write_wf h _ _) _ _) _ _)
      (by simp; omega) _
  have e2 : (m.writeWord i v).read (4 * i + 2) = v.extractLsb' 16 8 := by
    unfold Memory.writeWord
    rw [Memory.read_write_other _ _ (by omega)]
    exact Memory.read_write_same (Memory.write_wf (Memory.write_wf h _ _) _ _) (by simp; omega) _
  have e1 : (m.writeWord i v).read (4 * i + 1) = v.extractLsb' 8 8 := by
    unfold Memory.writeWord
    rw [Memory.read_write_other _ _ (by omega), Memory.read_write_other _ _ (by omega)]
    exact Memory.read_write_same (Memory.write_wf h _ _) (by simp; omega) _
  have e0 : (m.writeWord i v).read (4 * i) = v.extractLsb' 0 8 := by
    unfold Memory.writeWord
    rw [Memory.read_write_other _ _ (by omega), Memory.read_write_other _ _ (by omega),
      Memory.read_write_other _ _ (by omega)]
    exact Memory.read_write_same h (by omega) _
  unfold Memory.readWord
  rw [e3, e2, e1, e0, bytes_append]

/-! ### Clearing -/

@[simp] theorem Memory.clear_cleared (m : Memory) (n : Nat) : (m.clear n).cleared = n := rfl
@[simp] theorem Memory.clear_cells (m : Memory) (n : Nat) : (m.clear n).cells = [] := rfl
@[simp] theorem Memory.clear_epoch (m : Memory) (n : Nat) : (m.clear n).epoch = m.epoch + 1 := rfl
@[simp] theorem Memory.clear_wf (m : Memory) (n : Nat) : (m.clear n).wf = true := rfl
@[simp] theorem Memory.forget_cleared (m : Memory) : m.forget.cleared = 0 := rfl
@[simp] theorem Memory.forget_cells (m : Memory) : m.forget.cells = [] := rfl
@[simp] theorem Memory.forget_wf (m : Memory) : m.forget.wf = true := rfl

/-- After a clear every byte of the cleared words is 0. -/
theorem Memory.clear_read (m : Memory) {n a : Nat} (h : a < 4 * n) : (m.clear n).read a = 0 := by
  simp [Memory.read, Memory.unlisted, h]

/-- After a clear every cleared counter is 0 (R40). -/
theorem Memory.clear_readWord (m : Memory) {n i : Nat} (h : i < n) : (m.clear n).readWord i = 0 := by
  unfold Memory.readWord
  rw [Memory.clear_read _ (by omega), Memory.clear_read _ (by omega), Memory.clear_read _ (by omega),
    Memory.clear_read _ (by omega)]
  rfl

/-! ### Increments -/

@[simp] theorem Memory.increment_cleared (m : Memory) (i : Nat) : (m.increment i).cleared = m.cleared := by
  simp [Memory.increment]

@[simp] theorem Memory.increment_epoch (m : Memory) (i : Nat) : (m.increment i).epoch = m.epoch := by
  simp [Memory.increment]

theorem Memory.increment_wf {m : Memory} (h : m.wf = true) (i : Nat) : (m.increment i).wf = true :=
  Memory.writeWord_wf h _ _

theorem Memory.readWord_increment_same {m : Memory} (h : m.wf = true) {i : Nat} (hi : i < m.cleared) :
    (m.increment i).readWord i = m.readWord i + 1 :=
  Memory.readWord_writeWord_same h hi _

theorem Memory.readWord_increment_other (m : Memory) {i j : Nat} (h : j ≠ i) :
    (m.increment i).readWord j = m.readWord j :=
  Memory.readWord_writeWord_other m _ h

@[simp] theorem Memory.incrementAll_nil (m : Memory) : m.incrementAll [] = m := rfl

@[simp] theorem Memory.incrementAll_cons (m : Memory) (i : Nat) (t : List Nat) :
    m.incrementAll (i :: t) = (m.increment i).incrementAll t := rfl

@[simp] theorem Memory.incrementAll_cleared (m : Memory) (t : List Nat) :
    (m.incrementAll t).cleared = m.cleared := by
  induction t generalizing m with
  | nil => rfl
  | cons i t ih => simp [ih]

@[simp] theorem Memory.incrementAll_epoch (m : Memory) (t : List Nat) : (m.incrementAll t).epoch = m.epoch := by
  induction t generalizing m with
  | nil => rfl
  | cons i t ih => simp [ih]

theorem Memory.incrementAll_wf {m : Memory} (h : m.wf = true) (t : List Nat) : (m.incrementAll t).wf = true := by
  induction t generalizing m with
  | nil => exact h
  | cons i t ih => exact ih (Memory.increment_wf h i)

/-- The increments of a beat change only the bytes of the listed words. -/
theorem Memory.read_incrementAll_other (m : Memory) (t : List Nat) {a : Nat} (h : a / 4 ∉ t) :
    (m.incrementAll t).read a = m.read a := by
  induction t generalizing m with
  | nil => rfl
  | cons i t ih =>
    rw [Memory.incrementAll_cons, ih _ (fun hm => h (List.mem_cons_of_mem _ hm))]
    exact Memory.read_writeWord_other m _ (fun e => h (e ▸ List.mem_cons_self))

/-- The counter law: a listed counter goes up by 1, every other counter keeps its value (R119). -/
theorem Memory.readWord_incrementAll {m : Memory} (h : m.wf = true) {t : List Nat} (hn : t.Nodup)
    (hc : ∀ i ∈ t, i < m.cleared) (j : Nat) :
    (m.incrementAll t).readWord j = m.readWord j + if j ∈ t then 1 else 0 := by
  induction t generalizing m with
  | nil => simp
  | cons i t ih =>
    obtain ⟨hi, hn'⟩ := List.nodup_cons.1 hn
    rw [Memory.incrementAll_cons, ih (Memory.increment_wf h i) hn'
      (fun l hl => by simpa using hc l (List.mem_cons_of_mem _ hl))]
    by_cases e : j = i
    · subst j
      rw [Memory.readWord_increment_same h (hc i List.mem_cons_self)]
      simp [hi]
    · rw [Memory.readWord_increment_other m e]
      simp [e]

/-! ### Sums -/

theorem Memory.sumFrom_congr {m m' : Memory} {start stride n : Nat}
    (h : ∀ l < n, m'.readWord (start + stride * l) = m.readWord (start + stride * l)) :
    m'.sumFrom start stride n = m.sumFrom start stride n := by
  induction n with
  | zero => rfl
  | succ n ih => simp only [Memory.sumFrom, ih (fun l hl => h l (by omega)), h n (by omega)]

/-- A sum over cleared counters that no beat has touched is 0. -/
theorem Memory.sumFrom_clear (m : Memory) {c start stride n : Nat} (h : ∀ l < n, start + stride * l < c) :
    (m.clear c).sumFrom start stride n = 0 := by
  induction n with
  | zero => rfl
  | succ n ih =>
    simp only [Memory.sumFrom, ih (fun l hl => h l (by omega)), Memory.clear_readWord m (h n (by omega))]
    rfl

/-- One counter of the sum goes up by 1 and the others stay: the sum goes up by 1. -/
theorem Memory.sumFrom_bump {m m' : Memory} {start stride n l : Nat} (hl : l < n)
    (hv : (m'.readWord (start + stride * l)).toNat = (m.readWord (start + stride * l)).toNat + 1)
    (h : ∀ q < n, q ≠ l → m'.readWord (start + stride * q) = m.readWord (start + stride * q)) :
    m'.sumFrom start stride n = m.sumFrom start stride n + 1 := by
  induction n with
  | zero => omega
  | succ n ih =>
    simp only [Memory.sumFrom]
    by_cases e : l = n
    · subst e
      rw [Memory.sumFrom_congr (fun q hq => h q (by omega) (by omega)), hv]
      omega
    · rw [ih (by omega) (fun q hq hne => h q (by omega) hne), h n (by omega) (fun e' => e e'.symm)]
      omega

end Sys2Proof.Machine
end

