-- ==== Sys2Proof/Laws/State.lean ====
section
/-! SUPPORT. What each state update does to each field, all true by rfl. -/

namespace Sys2Proof.Machine

/-! ### `State.respond` -/

@[simp] theorem State.respond_seq (s : State) (rdata : Word) (err : Bool) : (s.respond rdata err).seq = s.seq := rfl
@[simp] theorem State.respond_irqEn (s : State) (rdata : Word) (err : Bool) :
    (s.respond rdata err).irqEn = s.irqEn := rfl
@[simp] theorem State.respond_scope (s : State) (rdata : Word) (err : Bool) :
    (s.respond rdata err).scope = s.scope := rfl
@[simp] theorem State.respond_doneIrq (s : State) (rdata : Word) (err : Bool) :
    (s.respond rdata err).doneIrq = s.doneIrq := rfl
@[simp] theorem State.respond_errIrq (s : State) (rdata : Word) (err : Bool) :
    (s.respond rdata err).errIrq = s.errIrq := rfl
@[simp] theorem State.respond_startIgnored (s : State) (rdata : Word) (err : Bool) :
    (s.respond rdata err).startIgnored = s.startIgnored := rfl
@[simp] theorem State.respond_width (s : State) (rdata : Word) (err : Bool) :
    (s.respond rdata err).width = s.width := rfl
@[simp] theorem State.respond_height (s : State) (rdata : Word) (err : Bool) :
    (s.respond rdata err).height = s.height := rfl
@[simp] theorem State.respond_errCode (s : State) (rdata : Word) (err : Bool) :
    (s.respond rdata err).errCode = s.errCode := rfl
@[simp] theorem State.respond_errDetail (s : State) (rdata : Word) (err : Bool) :
    (s.respond rdata err).errDetail = s.errDetail := rfl
@[simp] theorem State.respond_errIndex (s : State) (rdata : Word) (err : Bool) :
    (s.respond rdata err).errIndex = s.errIndex := rfl
@[simp] theorem State.respond_k (s : State) (rdata : Word) (err : Bool) : (s.respond rdata err).k = s.k := rfl
@[simp] theorem State.respond_actScope (s : State) (rdata : Word) (err : Bool) :
    (s.respond rdata err).actScope = s.actScope := rfl
@[simp] theorem State.respond_actWidth (s : State) (rdata : Word) (err : Bool) :
    (s.respond rdata err).actWidth = s.actWidth := rfl
@[simp] theorem State.respond_actHeight (s : State) (rdata : Word) (err : Bool) :
    (s.respond rdata err).actHeight = s.actHeight := rfl
@[simp] theorem State.respond_resultLen (s : State) (rdata : Word) (err : Bool) :
    (s.respond rdata err).resultLen = s.resultLen := rfl
@[simp] theorem State.respond_caps (s : State) (rdata : Word) (err : Bool) :
    (s.respond rdata err).caps = s.caps := rfl
@[simp] theorem State.respond_cnt (s : State) (rdata : Word) (err : Bool) : (s.respond rdata err).cnt = s.cnt := rfl
@[simp] theorem State.respond_rsp (s : State) (rdata : Word) (err : Bool) :
    (s.respond rdata err).rsp = some { rdata := rdata, err := err } := rfl
@[simp] theorem State.respond_hostReqs (s : State) (rdata : Word) (err : Bool) :
    (s.respond rdata err).hostReqs = s.hostReqs := rfl
@[simp] theorem State.respond_source (s : State) (rdata : Word) (err : Bool) :
    (s.respond rdata err).source = s.source := rfl
@[simp] theorem State.respond_schedule (s : State) (rdata : Word) (err : Bool) :
    (s.respond rdata err).schedule = s.schedule := rfl
@[simp] theorem State.respond_freeTurns (s : State) (rdata : Word) (err : Bool) :
    (s.respond rdata err).freeTurns = s.freeTurns := rfl

/-! ### `State.writeDone` -/

@[simp] theorem State.writeDone_seq (s : State) : (s.writeDone).seq = s.seq := rfl
@[simp] theorem State.writeDone_irqEn (s : State) : (s.writeDone).irqEn = s.irqEn := rfl
@[simp] theorem State.writeDone_scope (s : State) : (s.writeDone).scope = s.scope := rfl
@[simp] theorem State.writeDone_doneIrq (s : State) : (s.writeDone).doneIrq = s.doneIrq := rfl
@[simp] theorem State.writeDone_errIrq (s : State) : (s.writeDone).errIrq = s.errIrq := rfl
@[simp] theorem State.writeDone_startIgnored (s : State) : (s.writeDone).startIgnored = s.startIgnored := rfl
@[simp] theorem State.writeDone_width (s : State) : (s.writeDone).width = s.width := rfl
@[simp] theorem State.writeDone_height (s : State) : (s.writeDone).height = s.height := rfl
@[simp] theorem State.writeDone_errCode (s : State) : (s.writeDone).errCode = s.errCode := rfl
@[simp] theorem State.writeDone_errDetail (s : State) : (s.writeDone).errDetail = s.errDetail := rfl
@[simp] theorem State.writeDone_errIndex (s : State) : (s.writeDone).errIndex = s.errIndex := rfl
@[simp] theorem State.writeDone_k (s : State) : (s.writeDone).k = s.k := rfl
@[simp] theorem State.writeDone_actScope (s : State) : (s.writeDone).actScope = s.actScope := rfl
@[simp] theorem State.writeDone_actWidth (s : State) : (s.writeDone).actWidth = s.actWidth := rfl
@[simp] theorem State.writeDone_actHeight (s : State) : (s.writeDone).actHeight = s.actHeight := rfl
@[simp] theorem State.writeDone_resultLen (s : State) : (s.writeDone).resultLen = s.resultLen := rfl
@[simp] theorem State.writeDone_caps (s : State) : (s.writeDone).caps = s.caps := rfl
@[simp] theorem State.writeDone_cnt (s : State) : (s.writeDone).cnt = s.cnt := rfl
@[simp] theorem State.writeDone_rsp (s : State) : (s.writeDone).rsp = some { rdata := 0, err := false } := rfl
@[simp] theorem State.writeDone_hostReqs (s : State) : (s.writeDone).hostReqs = s.hostReqs := rfl
@[simp] theorem State.writeDone_source (s : State) : (s.writeDone).source = s.source := rfl
@[simp] theorem State.writeDone_schedule (s : State) : (s.writeDone).schedule = s.schedule := rfl
@[simp] theorem State.writeDone_freeTurns (s : State) : (s.writeDone).freeTurns = s.freeTurns := rfl

/-! ### `State.busError` -/

@[simp] theorem State.busError_seq (s : State) : (s.busError).seq = s.seq := rfl
@[simp] theorem State.busError_irqEn (s : State) : (s.busError).irqEn = s.irqEn := rfl
@[simp] theorem State.busError_scope (s : State) : (s.busError).scope = s.scope := rfl
@[simp] theorem State.busError_doneIrq (s : State) : (s.busError).doneIrq = s.doneIrq := rfl
@[simp] theorem State.busError_errIrq (s : State) : (s.busError).errIrq = s.errIrq := rfl
@[simp] theorem State.busError_startIgnored (s : State) : (s.busError).startIgnored = s.startIgnored := rfl
@[simp] theorem State.busError_width (s : State) : (s.busError).width = s.width := rfl
@[simp] theorem State.busError_height (s : State) : (s.busError).height = s.height := rfl
@[simp] theorem State.busError_errCode (s : State) : (s.busError).errCode = s.errCode := rfl
@[simp] theorem State.busError_errDetail (s : State) : (s.busError).errDetail = s.errDetail := rfl
@[simp] theorem State.busError_errIndex (s : State) : (s.busError).errIndex = s.errIndex := rfl
@[simp] theorem State.busError_k (s : State) : (s.busError).k = s.k := rfl
@[simp] theorem State.busError_actScope (s : State) : (s.busError).actScope = s.actScope := rfl
@[simp] theorem State.busError_actWidth (s : State) : (s.busError).actWidth = s.actWidth := rfl
@[simp] theorem State.busError_actHeight (s : State) : (s.busError).actHeight = s.actHeight := rfl
@[simp] theorem State.busError_resultLen (s : State) : (s.busError).resultLen = s.resultLen := rfl
@[simp] theorem State.busError_caps (s : State) : (s.busError).caps = s.caps := rfl
@[simp] theorem State.busError_cnt (s : State) : (s.busError).cnt = s.cnt := rfl
@[simp] theorem State.busError_rsp (s : State) : (s.busError).rsp = some { rdata := 0, err := true } := rfl
@[simp] theorem State.busError_hostReqs (s : State) : (s.busError).hostReqs = s.hostReqs := rfl
@[simp] theorem State.busError_source (s : State) : (s.busError).source = s.source := rfl
@[simp] theorem State.busError_schedule (s : State) : (s.busError).schedule = s.schedule := rfl
@[simp] theorem State.busError_freeTurns (s : State) : (s.busError).freeTurns = s.freeTurns := rfl

/-! ### `State.storeCtrl` -/

@[simp] theorem State.storeCtrl_seq (s : State) (e : Bool) (c : BitVec 4) : (s.storeCtrl e c).seq = s.seq := rfl
@[simp] theorem State.storeCtrl_irqEn (s : State) (e : Bool) (c : BitVec 4) : (s.storeCtrl e c).irqEn = e := rfl
@[simp] theorem State.storeCtrl_scope (s : State) (e : Bool) (c : BitVec 4) : (s.storeCtrl e c).scope = c := rfl
@[simp] theorem State.storeCtrl_doneIrq (s : State) (e : Bool) (c : BitVec 4) :
    (s.storeCtrl e c).doneIrq = s.doneIrq := rfl
@[simp] theorem State.storeCtrl_errIrq (s : State) (e : Bool) (c : BitVec 4) :
    (s.storeCtrl e c).errIrq = s.errIrq := rfl
@[simp] theorem State.storeCtrl_startIgnored (s : State) (e : Bool) (c : BitVec 4) :
    (s.storeCtrl e c).startIgnored = s.startIgnored := rfl
@[simp] theorem State.storeCtrl_width (s : State) (e : Bool) (c : BitVec 4) : (s.storeCtrl e c).width = s.width := rfl
@[simp] theorem State.storeCtrl_height (s : State) (e : Bool) (c : BitVec 4) :
    (s.storeCtrl e c).height = s.height := rfl
@[simp] theorem State.storeCtrl_errCode (s : State) (e : Bool) (c : BitVec 4) :
    (s.storeCtrl e c).errCode = s.errCode := rfl
@[simp] theorem State.storeCtrl_errDetail (s : State) (e : Bool) (c : BitVec 4) :
    (s.storeCtrl e c).errDetail = s.errDetail := rfl
@[simp] theorem State.storeCtrl_errIndex (s : State) (e : Bool) (c : BitVec 4) :
    (s.storeCtrl e c).errIndex = s.errIndex := rfl
@[simp] theorem State.storeCtrl_k (s : State) (e : Bool) (c : BitVec 4) : (s.storeCtrl e c).k = s.k := rfl
@[simp] theorem State.storeCtrl_actScope (s : State) (e : Bool) (c : BitVec 4) :
    (s.storeCtrl e c).actScope = s.actScope := rfl
@[simp] theorem State.storeCtrl_actWidth (s : State) (e : Bool) (c : BitVec 4) :
    (s.storeCtrl e c).actWidth = s.actWidth := rfl
@[simp] theorem State.storeCtrl_actHeight (s : State) (e : Bool) (c : BitVec 4) :
    (s.storeCtrl e c).actHeight = s.actHeight := rfl
@[simp] theorem State.storeCtrl_resultLen (s : State) (e : Bool) (c : BitVec 4) :
    (s.storeCtrl e c).resultLen = s.resultLen := rfl
@[simp] theorem State.storeCtrl_caps (s : State) (e : Bool) (c : BitVec 4) : (s.storeCtrl e c).caps = s.caps := rfl
@[simp] theorem State.storeCtrl_cnt (s : State) (e : Bool) (c : BitVec 4) : (s.storeCtrl e c).cnt = s.cnt := rfl
@[simp] theorem State.storeCtrl_rsp (s : State) (e : Bool) (c : BitVec 4) : (s.storeCtrl e c).rsp = s.rsp := rfl
@[simp] theorem State.storeCtrl_hostReqs (s : State) (e : Bool) (c : BitVec 4) :
    (s.storeCtrl e c).hostReqs = s.hostReqs := rfl
@[simp] theorem State.storeCtrl_source (s : State) (e : Bool) (c : BitVec 4) :
    (s.storeCtrl e c).source = s.source := rfl
@[simp] theorem State.storeCtrl_schedule (s : State) (e : Bool) (c : BitVec 4) :
    (s.storeCtrl e c).schedule = s.schedule := rfl
@[simp] theorem State.storeCtrl_freeTurns (s : State) (e : Bool) (c : BitVec 4) :
    (s.storeCtrl e c).freeTurns = s.freeTurns := rfl

/-! ### `State.clearFlags` -/

@[simp] theorem State.clearFlags_seq (s : State) (d e g : Bool) : (s.clearFlags d e g).seq = s.seq := rfl
@[simp] theorem State.clearFlags_irqEn (s : State) (d e g : Bool) : (s.clearFlags d e g).irqEn = s.irqEn := rfl
@[simp] theorem State.clearFlags_scope (s : State) (d e g : Bool) : (s.clearFlags d e g).scope = s.scope := rfl
@[simp] theorem State.clearFlags_doneIrq (s : State) (d e g : Bool) :
    (s.clearFlags d e g).doneIrq = w1c s.doneIrq d := rfl
@[simp] theorem State.clearFlags_errIrq (s : State) (d e g : Bool) :
    (s.clearFlags d e g).errIrq = w1c s.errIrq e := rfl
@[simp] theorem State.clearFlags_startIgnored (s : State) (d e g : Bool) :
    (s.clearFlags d e g).startIgnored = w1c s.startIgnored g := rfl
@[simp] theorem State.clearFlags_width (s : State) (d e g : Bool) : (s.clearFlags d e g).width = s.width := rfl
@[simp] theorem State.clearFlags_height (s : State) (d e g : Bool) : (s.clearFlags d e g).height = s.height := rfl
@[simp] theorem State.clearFlags_errCode (s : State) (d e g : Bool) : (s.clearFlags d e g).errCode = s.errCode := rfl
@[simp] theorem State.clearFlags_errDetail (s : State) (d e g : Bool) :
    (s.clearFlags d e g).errDetail = s.errDetail := rfl
@[simp] theorem State.clearFlags_errIndex (s : State) (d e g : Bool) :
    (s.clearFlags d e g).errIndex = s.errIndex := rfl
@[simp] theorem State.clearFlags_k (s : State) (d e g : Bool) : (s.clearFlags d e g).k = s.k := rfl
@[simp] theorem State.clearFlags_actScope (s : State) (d e g : Bool) :
    (s.clearFlags d e g).actScope = s.actScope := rfl
@[simp] theorem State.clearFlags_actWidth (s : State) (d e g : Bool) :
    (s.clearFlags d e g).actWidth = s.actWidth := rfl
@[simp] theorem State.clearFlags_actHeight (s : State) (d e g : Bool) :
    (s.clearFlags d e g).actHeight = s.actHeight := rfl
@[simp] theorem State.clearFlags_resultLen (s : State) (d e g : Bool) :
    (s.clearFlags d e g).resultLen = s.resultLen := rfl
@[simp] theorem State.clearFlags_caps (s : State) (d e g : Bool) : (s.clearFlags d e g).caps = s.caps := rfl
@[simp] theorem State.clearFlags_cnt (s : State) (d e g : Bool) : (s.clearFlags d e g).cnt = s.cnt := rfl
@[simp] theorem State.clearFlags_rsp (s : State) (d e g : Bool) : (s.clearFlags d e g).rsp = s.rsp := rfl
@[simp] theorem State.clearFlags_hostReqs (s : State) (d e g : Bool) :
    (s.clearFlags d e g).hostReqs = s.hostReqs := rfl
@[simp] theorem State.clearFlags_source (s : State) (d e g : Bool) : (s.clearFlags d e g).source = s.source := rfl
@[simp] theorem State.clearFlags_schedule (s : State) (d e g : Bool) :
    (s.clearFlags d e g).schedule = s.schedule := rfl
@[simp] theorem State.clearFlags_freeTurns (s : State) (d e g : Bool) :
    (s.clearFlags d e g).freeTurns = s.freeTurns := rfl

/-! ### `State.raise` -/

@[simp] theorem State.raise_seq (s : State) (e : BlockError) (x : DWord) (q : Seq) : (s.raise e x q).seq = q := rfl
@[simp] theorem State.raise_irqEn (s : State) (e : BlockError) (x : DWord) (q : Seq) :
    (s.raise e x q).irqEn = s.irqEn := rfl
@[simp] theorem State.raise_scope (s : State) (e : BlockError) (x : DWord) (q : Seq) :
    (s.raise e x q).scope = s.scope := rfl
@[simp] theorem State.raise_doneIrq (s : State) (e : BlockError) (x : DWord) (q : Seq) :
    (s.raise e x q).doneIrq = s.doneIrq := rfl
@[simp] theorem State.raise_errIrq (s : State) (e : BlockError) (x : DWord) (q : Seq) :
    (s.raise e x q).errIrq = true := rfl
@[simp] theorem State.raise_startIgnored (s : State) (e : BlockError) (x : DWord) (q : Seq) :
    (s.raise e x q).startIgnored = s.startIgnored := rfl
@[simp] theorem State.raise_width (s : State) (e : BlockError) (x : DWord) (q : Seq) :
    (s.raise e x q).width = s.width := rfl
@[simp] theorem State.raise_height (s : State) (e : BlockError) (x : DWord) (q : Seq) :
    (s.raise e x q).height = s.height := rfl
@[simp] theorem State.raise_errCode (s : State) (e : BlockError) (x : DWord) (q : Seq) :
    (s.raise e x q).errCode = e.code := rfl
@[simp] theorem State.raise_errDetail (s : State) (e : BlockError) (x : DWord) (q : Seq) :
    (s.raise e x q).errDetail = e.detail := rfl
@[simp] theorem State.raise_errIndex (s : State) (e : BlockError) (x : DWord) (q : Seq) :
    (s.raise e x q).errIndex = x := rfl
@[simp] theorem State.raise_k (s : State) (e : BlockError) (x : DWord) (q : Seq) : (s.raise e x q).k = s.k := rfl
@[simp] theorem State.raise_actScope (s : State) (e : BlockError) (x : DWord) (q : Seq) :
    (s.raise e x q).actScope = s.actScope := rfl
@[simp] theorem State.raise_actWidth (s : State) (e : BlockError) (x : DWord) (q : Seq) :
    (s.raise e x q).actWidth = s.actWidth := rfl
@[simp] theorem State.raise_actHeight (s : State) (e : BlockError) (x : DWord) (q : Seq) :
    (s.raise e x q).actHeight = s.actHeight := rfl
@[simp] theorem State.raise_resultLen (s : State) (e : BlockError) (x : DWord) (q : Seq) :
    (s.raise e x q).resultLen = s.resultLen := rfl
@[simp] theorem State.raise_caps (s : State) (e : BlockError) (x : DWord) (q : Seq) :
    (s.raise e x q).caps = s.caps := rfl
@[simp] theorem State.raise_cnt (s : State) (e : BlockError) (x : DWord) (q : Seq) :
    (s.raise e x q).cnt = s.cnt.forget := rfl
@[simp] theorem State.raise_rsp (s : State) (e : BlockError) (x : DWord) (q : Seq) :
    (s.raise e x q).rsp = s.rsp := rfl
@[simp] theorem State.raise_hostReqs (s : State) (e : BlockError) (x : DWord) (q : Seq) :
    (s.raise e x q).hostReqs = s.hostReqs := rfl
@[simp] theorem State.raise_source (s : State) (e : BlockError) (x : DWord) (q : Seq) :
    (s.raise e x q).source = s.source := rfl
@[simp] theorem State.raise_schedule (s : State) (e : BlockError) (x : DWord) (q : Seq) :
    (s.raise e x q).schedule = s.schedule := rfl
@[simp] theorem State.raise_freeTurns (s : State) (e : BlockError) (x : DWord) (q : Seq) :
    (s.raise e x q).freeTurns = s.freeTurns := rfl

/-! ### `State.raiseOnBeat` -/

@[simp] theorem State.raiseOnBeat_seq (s : State) (e : BlockError) (x : DWord) (l : Bool) :
    (s.raiseOnBeat e x l).seq = if l then .error else .drain := rfl
@[simp] theorem State.raiseOnBeat_irqEn (s : State) (e : BlockError) (x : DWord) (l : Bool) :
    (s.raiseOnBeat e x l).irqEn = s.irqEn := rfl
@[simp] theorem State.raiseOnBeat_scope (s : State) (e : BlockError) (x : DWord) (l : Bool) :
    (s.raiseOnBeat e x l).scope = s.scope := rfl
@[simp] theorem State.raiseOnBeat_doneIrq (s : State) (e : BlockError) (x : DWord) (l : Bool) :
    (s.raiseOnBeat e x l).doneIrq = s.doneIrq := rfl
@[simp] theorem State.raiseOnBeat_errIrq (s : State) (e : BlockError) (x : DWord) (l : Bool) :
    (s.raiseOnBeat e x l).errIrq = true := rfl
@[simp] theorem State.raiseOnBeat_startIgnored (s : State) (e : BlockError) (x : DWord) (l : Bool) :
    (s.raiseOnBeat e x l).startIgnored = s.startIgnored := rfl
@[simp] theorem State.raiseOnBeat_width (s : State) (e : BlockError) (x : DWord) (l : Bool) :
    (s.raiseOnBeat e x l).width = s.width := rfl
@[simp] theorem State.raiseOnBeat_height (s : State) (e : BlockError) (x : DWord) (l : Bool) :
    (s.raiseOnBeat e x l).height = s.height := rfl
@[simp] theorem State.raiseOnBeat_errCode (s : State) (e : BlockError) (x : DWord) (l : Bool) :
    (s.raiseOnBeat e x l).errCode = e.code := rfl
@[simp] theorem State.raiseOnBeat_errDetail (s : State) (e : BlockError) (x : DWord) (l : Bool) :
    (s.raiseOnBeat e x l).errDetail = e.detail := rfl
@[simp] theorem State.raiseOnBeat_errIndex (s : State) (e : BlockError) (x : DWord) (l : Bool) :
    (s.raiseOnBeat e x l).errIndex = x := rfl
@[simp] theorem State.raiseOnBeat_k (s : State) (e : BlockError) (x : DWord) (l : Bool) :
    (s.raiseOnBeat e x l).k = s.k := rfl
@[simp] theorem State.raiseOnBeat_actScope (s : State) (e : BlockError) (x : DWord) (l : Bool) :
    (s.raiseOnBeat e x l).actScope = s.actScope := rfl
@[simp] theorem State.raiseOnBeat_actWidth (s : State) (e : BlockError) (x : DWord) (l : Bool) :
    (s.raiseOnBeat e x l).actWidth = s.actWidth := rfl
@[simp] theorem State.raiseOnBeat_actHeight (s : State) (e : BlockError) (x : DWord) (l : Bool) :
    (s.raiseOnBeat e x l).actHeight = s.actHeight := rfl
@[simp] theorem State.raiseOnBeat_resultLen (s : State) (e : BlockError) (x : DWord) (l : Bool) :
    (s.raiseOnBeat e x l).resultLen = s.resultLen := rfl
@[simp] theorem State.raiseOnBeat_caps (s : State) (e : BlockError) (x : DWord) (l : Bool) :
    (s.raiseOnBeat e x l).caps = s.caps := rfl
@[simp] theorem State.raiseOnBeat_cnt (s : State) (e : BlockError) (x : DWord) (l : Bool) :
    (s.raiseOnBeat e x l).cnt = s.cnt.forget := rfl
@[simp] theorem State.raiseOnBeat_rsp (s : State) (e : BlockError) (x : DWord) (l : Bool) :
    (s.raiseOnBeat e x l).rsp = s.rsp := rfl
@[simp] theorem State.raiseOnBeat_hostReqs (s : State) (e : BlockError) (x : DWord) (l : Bool) :
    (s.raiseOnBeat e x l).hostReqs = s.hostReqs := rfl
@[simp] theorem State.raiseOnBeat_source (s : State) (e : BlockError) (x : DWord) (l : Bool) :
    (s.raiseOnBeat e x l).source = s.source := rfl
@[simp] theorem State.raiseOnBeat_schedule (s : State) (e : BlockError) (x : DWord) (l : Bool) :
    (s.raiseOnBeat e x l).schedule = s.schedule := rfl
@[simp] theorem State.raiseOnBeat_freeTurns (s : State) (e : BlockError) (x : DWord) (l : Bool) :
    (s.raiseOnBeat e x l).freeTurns = s.freeTurns := rfl

/-! ### `State.abort` -/

@[simp] theorem State.abort_seq (s : State) : (s.abort).seq = .idle := rfl
@[simp] theorem State.abort_irqEn (s : State) : (s.abort).irqEn = s.irqEn := rfl
@[simp] theorem State.abort_scope (s : State) : (s.abort).scope = s.scope := rfl
@[simp] theorem State.abort_doneIrq (s : State) : (s.abort).doneIrq = false := rfl
@[simp] theorem State.abort_errIrq (s : State) : (s.abort).errIrq = false := rfl
@[simp] theorem State.abort_startIgnored (s : State) : (s.abort).startIgnored = s.startIgnored := rfl
@[simp] theorem State.abort_width (s : State) : (s.abort).width = s.width := rfl
@[simp] theorem State.abort_height (s : State) : (s.abort).height = s.height := rfl
@[simp] theorem State.abort_errCode (s : State) : (s.abort).errCode = s.errCode := rfl
@[simp] theorem State.abort_errDetail (s : State) : (s.abort).errDetail = s.errDetail := rfl
@[simp] theorem State.abort_errIndex (s : State) : (s.abort).errIndex = s.errIndex := rfl
@[simp] theorem State.abort_k (s : State) : (s.abort).k = s.k := rfl
@[simp] theorem State.abort_actScope (s : State) : (s.abort).actScope = s.actScope := rfl
@[simp] theorem State.abort_actWidth (s : State) : (s.abort).actWidth = s.actWidth := rfl
@[simp] theorem State.abort_actHeight (s : State) : (s.abort).actHeight = s.actHeight := rfl
@[simp] theorem State.abort_resultLen (s : State) : (s.abort).resultLen = 0 := rfl
@[simp] theorem State.abort_caps (s : State) : (s.abort).caps = s.caps := rfl
@[simp] theorem State.abort_cnt (s : State) : (s.abort).cnt = s.cnt.forget := rfl
@[simp] theorem State.abort_rsp (s : State) : (s.abort).rsp = s.rsp := rfl
@[simp] theorem State.abort_hostReqs (s : State) : (s.abort).hostReqs = s.hostReqs := rfl
@[simp] theorem State.abort_source (s : State) : (s.abort).source = s.source := rfl
@[simp] theorem State.abort_schedule (s : State) : (s.abort).schedule = s.schedule := rfl
@[simp] theorem State.abort_freeTurns (s : State) : (s.abort).freeTurns = s.freeTurns := rfl

/-! ### `State.latch` -/

@[simp] theorem State.latch_seq (s : State) : (s.latch).seq = s.seq := rfl
@[simp] theorem State.latch_irqEn (s : State) : (s.latch).irqEn = s.irqEn := rfl
@[simp] theorem State.latch_scope (s : State) : (s.latch).scope = s.scope := rfl
@[simp] theorem State.latch_doneIrq (s : State) : (s.latch).doneIrq = false := rfl
@[simp] theorem State.latch_errIrq (s : State) : (s.latch).errIrq = false := rfl
@[simp] theorem State.latch_startIgnored (s : State) : (s.latch).startIgnored = s.startIgnored := rfl
@[simp] theorem State.latch_width (s : State) : (s.latch).width = s.width := rfl
@[simp] theorem State.latch_height (s : State) : (s.latch).height = s.height := rfl
@[simp] theorem State.latch_errCode (s : State) : (s.latch).errCode = s.errCode := rfl
@[simp] theorem State.latch_errDetail (s : State) : (s.latch).errDetail = s.errDetail := rfl
@[simp] theorem State.latch_errIndex (s : State) : (s.latch).errIndex = 0 := rfl
@[simp] theorem State.latch_k (s : State) : (s.latch).k = 0 := rfl
@[simp] theorem State.latch_actScope (s : State) : (s.latch).actScope = s.scope := rfl
@[simp] theorem State.latch_actWidth (s : State) : (s.latch).actWidth = s.width := rfl
@[simp] theorem State.latch_actHeight (s : State) : (s.latch).actHeight = s.height := rfl
@[simp] theorem State.latch_resultLen (s : State) : (s.latch).resultLen = s.resultLen := rfl
@[simp] theorem State.latch_caps (s : State) : (s.latch).caps = s.caps := rfl
@[simp] theorem State.latch_cnt (s : State) : (s.latch).cnt = s.cnt := rfl
@[simp] theorem State.latch_rsp (s : State) : (s.latch).rsp = s.rsp := rfl
@[simp] theorem State.latch_hostReqs (s : State) : (s.latch).hostReqs = s.hostReqs := rfl
@[simp] theorem State.latch_source (s : State) : (s.latch).source = s.source := rfl
@[simp] theorem State.latch_schedule (s : State) : (s.latch).schedule = s.schedule := rfl
@[simp] theorem State.latch_freeTurns (s : State) : (s.latch).freeTurns = s.freeTurns := rfl

/-! ### `State.startFrame` -/

@[simp] theorem State.startFrame_seq (s : State) : (s.startFrame).seq = .clear := rfl
@[simp] theorem State.startFrame_irqEn (s : State) : (s.startFrame).irqEn = s.irqEn := rfl
@[simp] theorem State.startFrame_scope (s : State) : (s.startFrame).scope = s.scope := rfl
@[simp] theorem State.startFrame_doneIrq (s : State) : (s.startFrame).doneIrq = s.doneIrq := rfl
@[simp] theorem State.startFrame_errIrq (s : State) : (s.startFrame).errIrq = s.errIrq := rfl
@[simp] theorem State.startFrame_startIgnored (s : State) : (s.startFrame).startIgnored = s.startIgnored := rfl
@[simp] theorem State.startFrame_width (s : State) : (s.startFrame).width = s.width := rfl
@[simp] theorem State.startFrame_height (s : State) : (s.startFrame).height = s.height := rfl
@[simp] theorem State.startFrame_errCode (s : State) : (s.startFrame).errCode = 0 := rfl
@[simp] theorem State.startFrame_errDetail (s : State) : (s.startFrame).errDetail = 0 := rfl
@[simp] theorem State.startFrame_errIndex (s : State) : (s.startFrame).errIndex = s.errIndex := rfl
@[simp] theorem State.startFrame_k (s : State) : (s.startFrame).k = s.k := rfl
@[simp] theorem State.startFrame_actScope (s : State) : (s.startFrame).actScope = s.actScope := rfl
@[simp] theorem State.startFrame_actWidth (s : State) : (s.startFrame).actWidth = s.actWidth := rfl
@[simp] theorem State.startFrame_actHeight (s : State) : (s.startFrame).actHeight = s.actHeight := rfl
@[simp] theorem State.startFrame_resultLen (s : State) :
    (s.startFrame).resultLen = BitVec.ofNat 32 (resultWords s.actScope s.actWidth) := rfl
@[simp] theorem State.startFrame_caps (s : State) : (s.startFrame).caps = s.caps := rfl
@[simp] theorem State.startFrame_cnt (s : State) :
    (s.startFrame).cnt = s.cnt.clear (resultWords s.actScope s.actWidth) := rfl
@[simp] theorem State.startFrame_rsp (s : State) : (s.startFrame).rsp = s.rsp := rfl
@[simp] theorem State.startFrame_hostReqs (s : State) : (s.startFrame).hostReqs = s.hostReqs := rfl
@[simp] theorem State.startFrame_source (s : State) : (s.startFrame).source = s.source := rfl
@[simp] theorem State.startFrame_schedule (s : State) : (s.startFrame).schedule = s.schedule := rfl
@[simp] theorem State.startFrame_freeTurns (s : State) : (s.startFrame).freeTurns = s.freeTurns := rfl

/-! ### `State.failStart` -/

@[simp] theorem State.failStart_seq (s : State) (e : BlockError) : (s.failStart e).seq = .error := rfl
@[simp] theorem State.failStart_irqEn (s : State) (e : BlockError) : (s.failStart e).irqEn = s.irqEn := rfl
@[simp] theorem State.failStart_scope (s : State) (e : BlockError) : (s.failStart e).scope = s.scope := rfl
@[simp] theorem State.failStart_doneIrq (s : State) (e : BlockError) : (s.failStart e).doneIrq = s.doneIrq := rfl
@[simp] theorem State.failStart_errIrq (s : State) (e : BlockError) : (s.failStart e).errIrq = true := rfl
@[simp] theorem State.failStart_startIgnored (s : State) (e : BlockError) :
    (s.failStart e).startIgnored = s.startIgnored := rfl
@[simp] theorem State.failStart_width (s : State) (e : BlockError) : (s.failStart e).width = s.width := rfl
@[simp] theorem State.failStart_height (s : State) (e : BlockError) : (s.failStart e).height = s.height := rfl
@[simp] theorem State.failStart_errCode (s : State) (e : BlockError) : (s.failStart e).errCode = e.code := rfl
@[simp] theorem State.failStart_errDetail (s : State) (e : BlockError) : (s.failStart e).errDetail = e.detail := rfl
@[simp] theorem State.failStart_errIndex (s : State) (e : BlockError) : (s.failStart e).errIndex = 0 := rfl
@[simp] theorem State.failStart_k (s : State) (e : BlockError) : (s.failStart e).k = s.k := rfl
@[simp] theorem State.failStart_actScope (s : State) (e : BlockError) : (s.failStart e).actScope = s.actScope := rfl
@[simp] theorem State.failStart_actWidth (s : State) (e : BlockError) : (s.failStart e).actWidth = s.actWidth := rfl
@[simp] theorem State.failStart_actHeight (s : State) (e : BlockError) :
    (s.failStart e).actHeight = s.actHeight := rfl
@[simp] theorem State.failStart_resultLen (s : State) (e : BlockError) : (s.failStart e).resultLen = 0 := rfl
@[simp] theorem State.failStart_caps (s : State) (e : BlockError) : (s.failStart e).caps = s.caps := rfl
@[simp] theorem State.failStart_cnt (s : State) (e : BlockError) : (s.failStart e).cnt = s.cnt.forget := rfl
@[simp] theorem State.failStart_rsp (s : State) (e : BlockError) : (s.failStart e).rsp = s.rsp := rfl
@[simp] theorem State.failStart_hostReqs (s : State) (e : BlockError) : (s.failStart e).hostReqs = s.hostReqs := rfl
@[simp] theorem State.failStart_source (s : State) (e : BlockError) : (s.failStart e).source = s.source := rfl
@[simp] theorem State.failStart_schedule (s : State) (e : BlockError) : (s.failStart e).schedule = s.schedule := rfl
@[simp] theorem State.failStart_freeTurns (s : State) (e : BlockError) :
    (s.failStart e).freeTurns = s.freeTurns := rfl

/-! ### `State.drainStep` -/

@[simp] theorem State.drainStep_seq (s : State) (l : Bool) : (s.drainStep l).seq = if l then .error else s.seq := rfl
@[simp] theorem State.drainStep_irqEn (s : State) (l : Bool) : (s.drainStep l).irqEn = s.irqEn := rfl
@[simp] theorem State.drainStep_scope (s : State) (l : Bool) : (s.drainStep l).scope = s.scope := rfl
@[simp] theorem State.drainStep_doneIrq (s : State) (l : Bool) : (s.drainStep l).doneIrq = s.doneIrq := rfl
@[simp] theorem State.drainStep_errIrq (s : State) (l : Bool) : (s.drainStep l).errIrq = s.errIrq := rfl
@[simp] theorem State.drainStep_startIgnored (s : State) (l : Bool) :
    (s.drainStep l).startIgnored = s.startIgnored := rfl
@[simp] theorem State.drainStep_width (s : State) (l : Bool) : (s.drainStep l).width = s.width := rfl
@[simp] theorem State.drainStep_height (s : State) (l : Bool) : (s.drainStep l).height = s.height := rfl
@[simp] theorem State.drainStep_errCode (s : State) (l : Bool) : (s.drainStep l).errCode = s.errCode := rfl
@[simp] theorem State.drainStep_errDetail (s : State) (l : Bool) : (s.drainStep l).errDetail = s.errDetail := rfl
@[simp] theorem State.drainStep_errIndex (s : State) (l : Bool) : (s.drainStep l).errIndex = s.errIndex := rfl
@[simp] theorem State.drainStep_k (s : State) (l : Bool) : (s.drainStep l).k = s.k + 1 := rfl
@[simp] theorem State.drainStep_actScope (s : State) (l : Bool) : (s.drainStep l).actScope = s.actScope := rfl
@[simp] theorem State.drainStep_actWidth (s : State) (l : Bool) : (s.drainStep l).actWidth = s.actWidth := rfl
@[simp] theorem State.drainStep_actHeight (s : State) (l : Bool) : (s.drainStep l).actHeight = s.actHeight := rfl
@[simp] theorem State.drainStep_resultLen (s : State) (l : Bool) : (s.drainStep l).resultLen = s.resultLen := rfl
@[simp] theorem State.drainStep_caps (s : State) (l : Bool) : (s.drainStep l).caps = s.caps := rfl
@[simp] theorem State.drainStep_cnt (s : State) (l : Bool) : (s.drainStep l).cnt = s.cnt := rfl
@[simp] theorem State.drainStep_rsp (s : State) (l : Bool) : (s.drainStep l).rsp = s.rsp := rfl
@[simp] theorem State.drainStep_hostReqs (s : State) (l : Bool) : (s.drainStep l).hostReqs = s.hostReqs := rfl
@[simp] theorem State.drainStep_source (s : State) (l : Bool) : (s.drainStep l).source = s.source := rfl
@[simp] theorem State.drainStep_schedule (s : State) (l : Bool) : (s.drainStep l).schedule = s.schedule := rfl
@[simp] theorem State.drainStep_freeTurns (s : State) (l : Bool) : (s.drainStep l).freeTurns = s.freeTurns := rfl

/-! ### `State.resetEvent` -/

@[simp] theorem State.resetEvent_seq (s : State) (a : Bool) :
    (s.resetEvent a).seq = (State.resetWith s.caps).seq := rfl
@[simp] theorem State.resetEvent_irqEn (s : State) (a : Bool) :
    (s.resetEvent a).irqEn = (State.resetWith s.caps).irqEn := rfl
@[simp] theorem State.resetEvent_scope (s : State) (a : Bool) :
    (s.resetEvent a).scope = (State.resetWith s.caps).scope := rfl
@[simp] theorem State.resetEvent_doneIrq (s : State) (a : Bool) :
    (s.resetEvent a).doneIrq = (State.resetWith s.caps).doneIrq := rfl
@[simp] theorem State.resetEvent_errIrq (s : State) (a : Bool) :
    (s.resetEvent a).errIrq = (State.resetWith s.caps).errIrq := rfl
@[simp] theorem State.resetEvent_startIgnored (s : State) (a : Bool) :
    (s.resetEvent a).startIgnored = (State.resetWith s.caps).startIgnored := rfl
@[simp] theorem State.resetEvent_width (s : State) (a : Bool) :
    (s.resetEvent a).width = (State.resetWith s.caps).width := rfl
@[simp] theorem State.resetEvent_height (s : State) (a : Bool) :
    (s.resetEvent a).height = (State.resetWith s.caps).height := rfl
@[simp] theorem State.resetEvent_errCode (s : State) (a : Bool) :
    (s.resetEvent a).errCode = (State.resetWith s.caps).errCode := rfl
@[simp] theorem State.resetEvent_errDetail (s : State) (a : Bool) :
    (s.resetEvent a).errDetail = (State.resetWith s.caps).errDetail := rfl
@[simp] theorem State.resetEvent_errIndex (s : State) (a : Bool) :
    (s.resetEvent a).errIndex = (State.resetWith s.caps).errIndex := rfl
@[simp] theorem State.resetEvent_k (s : State) (a : Bool) : (s.resetEvent a).k = (State.resetWith s.caps).k := rfl
@[simp] theorem State.resetEvent_actScope (s : State) (a : Bool) :
    (s.resetEvent a).actScope = (State.resetWith s.caps).actScope := rfl
@[simp] theorem State.resetEvent_actWidth (s : State) (a : Bool) :
    (s.resetEvent a).actWidth = (State.resetWith s.caps).actWidth := rfl
@[simp] theorem State.resetEvent_actHeight (s : State) (a : Bool) :
    (s.resetEvent a).actHeight = (State.resetWith s.caps).actHeight := rfl
@[simp] theorem State.resetEvent_resultLen (s : State) (a : Bool) :
    (s.resetEvent a).resultLen = (State.resetWith s.caps).resultLen := rfl
@[simp] theorem State.resetEvent_caps (s : State) (a : Bool) : (s.resetEvent a).caps = s.caps := rfl
@[simp] theorem State.resetEvent_cnt (s : State) (a : Bool) : (s.resetEvent a).cnt = s.cnt.forget := rfl
@[simp] theorem State.resetEvent_rsp (s : State) (a : Bool) :
    (s.resetEvent a).rsp = (State.resetWith s.caps).rsp := rfl
@[simp] theorem State.resetEvent_hostReqs (s : State) (a : Bool) :
    (s.resetEvent a).hostReqs = if a then s.hostReqs.tail else s.hostReqs := rfl
@[simp] theorem State.resetEvent_source (s : State) (a : Bool) : (s.resetEvent a).source = s.source := rfl
@[simp] theorem State.resetEvent_schedule (s : State) (a : Bool) : (s.resetEvent a).schedule = s.schedule := rfl
@[simp] theorem State.resetEvent_freeTurns (s : State) (a : Bool) : (s.resetEvent a).freeTurns = s.freeTurns := rfl

end Sys2Proof.Machine
end

