-- ==== Sys2Proof/Laws/Ops.lean ====
section
/-! SUPPORT. What each shared operation can do, said once: callers cite these and do not unfold the operation. -/

namespace Sys2Proof.Machine

/-! ### Flags -/

/-- W1C on one bit (R25). -/
@[simp] theorem w1c_false (b : Bool) : w1c b false = b := by cases b <;> rfl
@[simp] theorem w1c_true (b : Bool) : w1c b true = false := by cases b <;> rfl

/-- BUSY is 1 exactly in CLEAR, RUN and DRAIN (R22). -/
theorem State.busy_iff (s : State) : s.busy = true ↔ s.seq = .clear ∨ s.seq = .run ∨ s.seq = .drain := by
  unfold State.busy
  cases s.seq <;> simp [seqBusy]

/-- A beat may be accepted exactly in RUN and DRAIN (R44). -/
theorem State.mayAccept_iff (s : State) : s.mayAccept = true ↔ s.seq = .run ∨ s.seq = .drain := by
  unfold State.mayAccept
  cases s.seq <;> simp [seqAccepts]

/-- The states whose counters are specified. -/
theorem State.counting_iff (s : State) : s.counting = true ↔ s.seq = .clear ∨ s.seq = .run ∨ s.seq = .done := by
  unfold State.counting
  cases s.seq <;> simp

/-! ### START -/

/-- A START passes its checks exactly with a valid SCOPE, dimensions that are not 0, and a waveform that fits
(R135). -/
theorem startCheck_eq_none_iff {caps w h : Word} {scope : BitVec 4} :
    startCheck caps scope w h = none ↔
      (1 ≤ scope.toNat ∧ scope.toNat ≤ 5) ∧ 0 < w.toNat ∧ 0 < h.toNat ∧
        (scope.toNat = 2 ∨ scope.toNat = 3 → w.toNat ≤ caps.toNat) := by
  unfold startCheck
  constructor
  · intro hc
    split at hc
    · cases hc
    · split at hc
      · cases hc
      · split at hc
        · cases hc
        · split at hc
          · cases hc
          · omega
  · rintro ⟨h1, h2, h3, h4⟩
    rw [if_neg (by omega), if_neg (by omega), if_neg (by omega), if_neg (by omega)]

/-- Everything a START can do: be ignored, fail, or begin a frame. -/
theorem State.start_cases (s : State) (e : Bool) (c : BitVec 4) :
    (s.busy = true ∧ s.start e c = { s.storeCtrl e c with startIgnored := true }) ∨
    (s.busy = false ∧ (∃ x, startCheck s.caps c s.width s.height = some x ∧
      s.start e c = (s.storeCtrl e c).latch.failStart x)) ∨
    (s.busy = false ∧ startCheck s.caps c s.width s.height = none ∧
      s.start e c = (s.storeCtrl e c).latch.startFrame) := by
  have hb : (s.storeCtrl e c).busy = s.busy := rfl
  unfold State.start
  rw [hb]
  cases hbusy : s.busy with
  | true => exact .inl ⟨rfl, rfl⟩
  | false =>
    refine .inr ?_
    simp only [Bool.false_eq_true, if_false]
    have hk : (s.storeCtrl e c).startIdle = match startCheck s.caps c s.width s.height with
        | some x => (s.storeCtrl e c).latch.failStart x
        | none => (s.storeCtrl e c).latch.startFrame := rfl
    rw [hk]
    cases startCheck s.caps c s.width s.height with
    | some x => exact .inl ⟨trivial, x, rfl, rfl⟩
    | none => exact .inr ⟨trivial, rfl, rfl⟩

/-! ### The frame -/

/-- Everything Accumulate can do (R119). -/
theorem State.accumulate_cases (s : State) (t : List Nat) (k0 : DWord) (last : Bool) :
    (s.cnt.anyFull t = true ∧ s.accumulate t k0 last = s.raiseOnBeat .counterOverflow k0 last) ∨
    (s.cnt.anyFull t = false ∧ s.accumulate t k0 last = { s with cnt := s.cnt.incrementAll t }) := by
  unfold State.accumulate
  cases s.cnt.anyFull t with
  | true => exact .inl ⟨rfl, rfl⟩
  | false => exact .inr ⟨rfl, rfl⟩

/-- No counter of the list holds 2^32 - 1. -/
theorem Memory.anyFull_eq_false_iff (m : Memory) (t : List Nat) :
    m.anyFull t = false ↔ ∀ i ∈ t, m.readWord i ≠ 0xFFFFFFFF := by
  simp [Memory.anyFull]

/-- Everything the frame step of a beat in RUN can do (R118): a short frame, a long frame, a counter overflow, a
pixel inside the frame, or the pixel that completes it. -/
theorem State.frameStep_cases {s : State} (hs : s.seq = .run) (t : List Nat) (last : Bool) :
    ((last = true ∧ s.k.toNat + 1 < s.n) ∧
      s.frameStep t last = { s with k := s.k + 1 }.raiseOnBeat .shortFrame s.k last) ∨
    ((last = false ∧ s.k.toNat + 1 = s.n) ∧
      s.frameStep t last = { s with k := s.k + 1 }.raiseOnBeat .longFrame s.k last) ∨
    ((¬(last = true ∧ s.k.toNat + 1 < s.n) ∧ ¬(last = false ∧ s.k.toNat + 1 = s.n) ∧ s.cnt.anyFull t = true) ∧
      s.frameStep t last = { s with k := s.k + 1 }.raiseOnBeat .counterOverflow s.k last) ∨
    ((last = false ∧ s.k.toNat + 1 ≠ s.n ∨ last = true ∧ s.n < s.k.toNat + 1) ∧ s.cnt.anyFull t = false ∧
      s.frameStep t last = { s with k := s.k + 1, cnt := s.cnt.incrementAll t }) ∨
    ((last = true ∧ s.k.toNat + 1 = s.n) ∧ s.cnt.anyFull t = false ∧
      s.frameStep t last =
        { s with k := s.k + 1, cnt := s.cnt.incrementAll t, seq := .done, doneIrq := true }) := by
  unfold State.frameStep
  by_cases h1 : last = true ∧ s.k.toNat + 1 < s.n
  · rw [if_pos h1]
    exact .inl ⟨h1, rfl⟩
  rw [if_neg h1]
  by_cases h2 : last = false ∧ s.k.toNat + 1 = s.n
  · rw [if_pos h2]
    exact .inr (.inl ⟨h2, rfl⟩)
  rw [if_neg h2]
  refine .inr (.inr ?_)
  obtain ⟨hf, e⟩ | ⟨hf, e⟩ := State.accumulate_cases { s with k := s.k + 1 } t s.k last
  · refine .inl ⟨⟨h1, h2, hf⟩, ?_⟩
    rw [e]
    unfold State.completeAt
    rw [if_neg]
    cases last <;> simp
  · refine .inr ?_
    rw [e]
    unfold State.completeAt
    have hn : State.n { s with k := s.k + 1, cnt := s.cnt.incrementAll t } = s.n := rfl
    by_cases h3 : s.k.toNat + 1 = s.n
    · have hl : last = true := by cases last <;> simp_all
      refine .inr ⟨⟨hl, h3⟩, hf, ?_⟩
      rw [if_pos ⟨hs, h3⟩]
    · refine .inl ⟨?_, hf, ?_⟩
      · cases last with
        | true => exact .inr ⟨rfl, by simp at h1; omega⟩
        | false => exact .inl ⟨rfl, h3⟩
      · rw [if_neg (fun h => h3 h.2)]

/-! ### The next event -/

/-- Everything `fetchBeat` can answer. -/
theorem State.fetchBeat_cases (s : State) :
    s.fetchBeat = .quiet s ∨ s.fetchBeat = .stop .beatSelectsNothing ∨
    (∃ b rest i, s.source = b :: rest ∧ decodeBeat s.seq s.actScope b = .ok i ∧
      s.fetchBeat = .run i { s with source := rest }) := by
  unfold State.fetchBeat
  split
  · exact .inl rfl
  · rename_i b rest hsrc
    split
    · rename_i i hd
      exact .inr (.inr ⟨b, rest, i, hsrc, hd, by simp⟩)
    · exact .inl rfl
    · exact .inr (.inl rfl)

/-- Everything `fetchBus` can answer. -/
theorem State.fetchBus_cases (s : State) :
    s.fetchBus = .quiet s ∨
    (∃ q rest, s.hostReqs = q :: rest ∧
      s.fetchBus = .run (decodeReq s.caps.toNat q) { s with hostReqs := rest }) := by
  unfold State.fetchBus
  split
  · exact .inl rfl
  · rename_i q rest h
    exact .inr ⟨q, rest, h, by simp⟩

/-- The schedule decides: its head is the next event. -/
theorem State.fetch_scheduled {s : State} {t : Turn} {ts : List Turn} (h : s.schedule = t :: ts) :
    s.fetch = State.fetchTurn { s with rsp := none, schedule := ts } t := by
  simp [State.fetch, State.fetchNext, h]

/-- The next event is some agent's, taken from the state without its response and with the schedule or the choice
counter advanced; or nothing happens. -/
theorem State.fetch_cases (s : State) :
    s.fetch = .quiet { s with rsp := none } ∨
    (∃ t sched n, s.fetch = State.fetchTurn { s with rsp := none, schedule := sched, freeTurns := n } t) := by
  unfold State.fetch State.fetchNext
  cases hs : s.schedule with
  | cons t rest => exact .inr ⟨t, rest, s.freeTurns, rfl⟩
  | nil =>
    simp only
    split
    · exact .inl (by simp)
    · rename_i t _
      exact .inr ⟨t, [], s.freeTurns, by simp⟩
    · exact .inr ⟨_, [], s.freeTurns + 1, by simp; rfl⟩

end Sys2Proof.Machine
end

