-- ==== Sys2Proof/Laws/PerInstr.lean ====
section
/-! SUPPORT. A statement about the syntax of every operation, one lemma per constructor of `Instr`.

`TableRow`: the encoding of a well-formed operation has the match and mask of its row in `opcode_table.json` (R76). -/

namespace Sys2Proof.Laws

/-- The encoding of a well-formed operation fits its row of the opcode table (R76). -/
def TableRow.Statement (i : Instr) : Prop :=
  ∀ wMax : Nat, wMax ≤ Config.wMaxLimit → i.wellFormed wMax = true → i.row.fits (encode i) = true

/-- An aligned address has its two low bits 0. -/
theorem and_three_of_aligned {a : Word} (h : a.toNat % 4 = 0) : a &&& 0x00000003 = 0 := by
  apply BitVec.eq_of_toNat_eq
  rw [BitVec.toNat_and, show (0x00000003 : Word).toNat = 2 ^ 2 - 1 from rfl, Nat.and_two_pow_sub_one_eq_mod]
  simpa using h

/-- The address of a result word is aligned. -/
theorem windowAddr_aligned (i : BitVec 30) : windowAddr i &&& 0x00000003 = 0 := by
  apply and_three_of_aligned
  simp only [windowAddr, BitVec.toNat_ofNat, Config.resultBase]
  omega

theorem regAddr_ctrl : regAddr 2 &&& 0xFFFFFFFF = 0x008 := by decide
theorem regAddr_status : regAddr 3 &&& 0xFFFFFFFF = 0x00C := by decide
theorem regAddr_width : regAddr 4 &&& 0xFFFFFFFF = 0x010 := by decide
theorem regAddr_height : regAddr 5 &&& 0xFFFFFFFF = 0x014 := by decide

/-- The address of a register is an aligned offset below 0x100. -/
theorem regAddr_offset : ∀ off : BitVec 6, regAddr off &&& 0xFFFFFF03 = 0 := by decide

/-- The table's mask of a START row sees SCOPE, ABORT and START. -/
theorem cmdWord_startRow : ∀ (e : Bool) (c : BitVec 4),
    cmdWord true false e c &&& 0xF3 = (c.setWidth 32 <<< 4) ||| 1 := by decide

theorem cmdWord_scope6_7 : ∀ (e : Bool) (c : BitVec 4), (c == 6 || c == 7) = true →
    cmdWord true false e c &&& 0xE3 = 0x61 := by decide

theorem cmdWord_scope8_15 : ∀ (e : Bool) (c : BitVec 4), decide (8 ≤ c.toNat) = true →
    cmdWord true false e c &&& 0x83 = 0x81 := by decide

theorem cmdWord_abort : ∀ (s e : Bool) (c : BitVec 4), cmdWord s true e c &&& 0x02 = 0x02 := by decide

theorem cmdWord_none : ∀ (e : Bool) (c : BitVec 4), cmdWord false false e c &&& 0x03 = 0x00 := by decide

/-- A request whose write flag, address and data fit the row. -/
theorem fits_regop {w : Option Bool} {addr addrMask wdata wdataMask : Word} {q : BusReq}
    (hw : w = none ∨ w = some q.write) (ha : q.addr &&& addrMask = addr) (hd : q.wdata &&& wdataMask = wdata) :
    (RowPattern.regop w addr addrMask wdata wdataMask).fits (.regop q) = true := by
  obtain rfl | rfl := hw <;> simp [RowPattern.fits, ha, hd]

theorem TableRow.cfg (irqEn : Bool) (scope : BitVec 4) :
    TableRow.Statement (.cfg irqEn scope) :=
  fun _ _ _ => fits_regop (.inr rfl) regAddr_ctrl (cmdWord_none irqEn scope)

theorem TableRow.startHistogram (irqEn : Bool) :
    TableRow.Statement (.startHistogram irqEn) :=
  fun _ _ _ => fits_regop (.inr rfl) regAddr_ctrl (cmdWord_startRow irqEn 1)

theorem TableRow.startWaveformLuma (irqEn : Bool) :
    TableRow.Statement (.startWaveformLuma irqEn) :=
  fun _ _ _ => fits_regop (.inr rfl) regAddr_ctrl (cmdWord_startRow irqEn 2)

theorem TableRow.startWaveformParade (irqEn : Bool) :
    TableRow.Statement (.startWaveformParade irqEn) :=
  fun _ _ _ => fits_regop (.inr rfl) regAddr_ctrl (cmdWord_startRow irqEn 3)

theorem TableRow.startVectorscopeA (irqEn : Bool) :
    TableRow.Statement (.startVectorscopeA irqEn) :=
  fun _ _ _ => fits_regop (.inr rfl) regAddr_ctrl (cmdWord_startRow irqEn 4)

theorem TableRow.startVectorscopeB (irqEn : Bool) :
    TableRow.Statement (.startVectorscopeB irqEn) :=
  fun _ _ _ => fits_regop (.inr rfl) regAddr_ctrl (cmdWord_startRow irqEn 5)

theorem TableRow.startInvalidScope0 (irqEn : Bool) :
    TableRow.Statement (.startInvalidScope0 irqEn) :=
  fun _ _ _ => fits_regop (.inr rfl) regAddr_ctrl (cmdWord_startRow irqEn 0)

theorem TableRow.startInvalidScope6_7 (irqEn : Bool) (scope : BitVec 4) :
    TableRow.Statement (.startInvalidScope6_7 irqEn scope) :=
  fun _ _ h => fits_regop (.inr rfl) regAddr_ctrl (cmdWord_scope6_7 irqEn scope h)

theorem TableRow.startInvalidScope8_15 (irqEn : Bool) (scope : BitVec 4) :
    TableRow.Statement (.startInvalidScope8_15 irqEn scope) :=
  fun _ _ h => fits_regop (.inr rfl) regAddr_ctrl (cmdWord_scope8_15 irqEn scope h)

theorem TableRow.abort (start irqEn : Bool) (scope : BitVec 4) :
    TableRow.Statement (.abort start irqEn scope) :=
  fun _ _ _ => fits_regop (.inr rfl) regAddr_ctrl (cmdWord_abort start irqEn scope)

theorem TableRow.wrStatus (d e g : Bool) :
    TableRow.Statement (.wrStatus d e g) :=
  fun _ _ _ => fits_regop (.inr rfl) regAddr_status (BitVec.and_zero)

theorem TableRow.wrWidth (wd : Word) :
    TableRow.Statement (.wrWidth wd) :=
  fun _ _ _ => fits_regop (.inr rfl) regAddr_width (BitVec.and_zero)

theorem TableRow.wrHeight (wd : Word) :
    TableRow.Statement (.wrHeight wd) :=
  fun _ _ _ => fits_regop (.inr rfl) regAddr_height (BitVec.and_zero)

theorem TableRow.wrIgnored (off : BitVec 6) :
    TableRow.Statement (.wrIgnored off) :=
  fun _ _ _ => fits_regop (.inr rfl) (regAddr_offset off) (BitVec.and_zero)

theorem TableRow.rdReg (off : BitVec 6) :
    TableRow.Statement (.rdReg off) :=
  fun _ _ _ => fits_regop (.inr rfl) (regAddr_offset off) (BitVec.and_zero)

theorem TableRow.rdResult (i : BitVec 30) :
    TableRow.Statement (.rdResult i) :=
  fun _ _ _ => fits_regop (.inr rfl) (windowAddr_aligned i) (BitVec.and_zero)

theorem TableRow.wrResult (i : BitVec 30) :
    TableRow.Statement (.wrResult i) :=
  fun _ _ _ => fits_regop (.inr rfl) (windowAddr_aligned i) (BitVec.and_zero)

theorem TableRow.buserrMisaligned (write : Bool) (addr : Word) :
    TableRow.Statement (.buserrMisaligned write addr) :=
  fun _ _ _ => fits_regop (.inl rfl) BitVec.and_zero (BitVec.and_zero)

theorem TableRow.buserrUnmapped (write : Bool) (addr : Word) : TableRow.Statement (.buserrUnmapped write addr) := by
  intro wMax _ h
  simp only [Instr.wellFormed, Bool.and_eq_true, decide_eq_true_eq] at h
  exact fits_regop (.inl rfl) (and_three_of_aligned h.1.1) BitVec.and_zero

theorem TableRow.pixHistogram (p : Pixel) (last : Bool) :
    TableRow.Statement (.pixHistogram p last) :=
  fun _ _ _ => rfl

theorem TableRow.pixWaveformLuma (p : Pixel) (last : Bool) :
    TableRow.Statement (.pixWaveformLuma p last) :=
  fun _ _ _ => rfl

theorem TableRow.pixWaveformParade (p : Pixel) (last : Bool) :
    TableRow.Statement (.pixWaveformParade p last) :=
  fun _ _ _ => rfl

theorem TableRow.pixVectorscopeA (p : Pixel) (last : Bool) :
    TableRow.Statement (.pixVectorscopeA p last) :=
  fun _ _ _ => rfl

theorem TableRow.pixVectorscopeB (p : Pixel) (last : Bool) :
    TableRow.Statement (.pixVectorscopeB p last) :=
  fun _ _ _ => rfl

theorem TableRow.pixDrain (p : Pixel) (last : Bool) :
    TableRow.Statement (.pixDrain p last) :=
  fun _ _ _ => rfl

end Sys2Proof.Laws
end

