-- ==== Sys2Proof/Laws/Safety.lean ====
section
/-! SUPPORT. The small lemmas of the terms the statements use: the relations of R125, the beats a step accepted, and the
state in which a placed event runs. -/

namespace Sys2Proof.Machine

/-! ### Two blocks at the same point of the same request (R125) -/

theorem SameRequest.refl (s : State) : SameRequest s s :=
  ⟨rfl, rfl, rfl, rfl, rfl, rfl, rfl, rfl, rfl, rfl, fun _ _ => rfl⟩

theorem SameRequest.symm {s s' : State} (h : SameRequest s s') : SameRequest s' s :=
  ⟨h.seq_eq.symm, h.k_eq.symm, h.scope_eq.symm, h.width_eq.symm, h.height_eq.symm, h.len_eq.symm, h.code_eq.symm,
    h.detail_eq.symm, h.index_eq.symm, h.cleared_eq.symm, fun i hi => (h.count_eq i (h.cleared_eq ▸ hi)).symm⟩

theorem SameFrame.refl (s : State) : SameFrame s s := ⟨SameRequest.refl s, rfl, rfl⟩

theorem SameFrame.symm {s s' : State} (h : SameFrame s s') : SameFrame s' s :=
  ⟨h.toSameRequest.symm, h.done_eq.symm, h.err_eq.symm⟩

/-! ### The beats of a step -/

/-- An event that takes no beat accepts none. -/
theorem acceptedBeats_of_eq {s t : State} (h : t.source = s.source) : acceptedBeats s t = [] := by
  simp [acceptedBeats, h]

/-- The beat that left the source is the accepted one. -/
theorem acceptedBeats_of_cons {s t : State} {b : Beat} (h : s.source = b :: t.source) : acceptedBeats s t = [b] := by
  simp [acceptedBeats, h]

/-- In CLEAR the frame has no beat yet. -/
theorem pastAfter_clear {s t : State} (h : t.seq = .clear) (past : List Beat) : pastAfter s t past = [] := by
  simp [pastAfter, h]

theorem pastAfter_of_ne {s t : State} (h : t.seq ≠ .clear) (past : List Beat) :
    pastAfter s t past = past ++ acceptedBeats s t := by
  simp [pastAfter, h]

@[simp] theorem pixelsWith_nil (f : Nat → Pixel → Bool) : pixelsWith [] f = 0 := rfl

/-- One more beat, with the number of the beats before it as its cursor. -/
theorem pixelsWith_concat (past : List Beat) (b : Beat) (f : Nat → Pixel → Bool) :
    pixelsWith (past ++ [b]) f = pixelsWith past f + if f past.length (pixelOfData b.data) then 1 else 0 := by
  simp [pixelsWith, List.zipIdx_append, List.countP_append, List.countP_singleton]

/-! ### A placed event -/

@[simp] theorem runningPlaced_regop (s : State) (q : BusReq) : s.runningPlaced (.regop q) = { s with rsp := none } := rfl

@[simp] theorem runningPlaced_beat (s : State) (seq : Seq) (actScope : BitVec 4) (b : Beat) :
    s.runningPlaced (.beat seq actScope b) = { s with rsp := none, seq := seq, actScope := actScope } := rfl

end Sys2Proof.Machine
end

