-- ==== Sys2Proof/Tests/Slice0.lean ====
section
/-! SUPPORT. Own tests: ill-formed terms, words written out from the encodings of the spec, one-step tests whose expected
values are those of `95_test_vectors.md`, and for each obligation with hypotheses a witness that meets them. -/

open Sys2Proof Sys2Proof.Machine

namespace Sys2Proof.Tests

/-! ### Helpers -/

/-- A pixel with alpha 0. -/
def rgb (r g b : Byte) : Pixel := { r := r, g := g, b := b, a := 0 }

/-- A register-bus write. -/
def wr (addr wdata : Word) : BusReq := { write := true, addr := addr, wdata := wdata }

/-- A register-bus read. -/
def rd (addr : Word) : BusReq := { write := false, addr := addr, wdata := 0 }

/-- A block in IDLE with the dimensions written. -/
def sized (w h : Word) : State := { State.reset with width := w, height := h }

/-- A frame of the given operation and size that has accepted `k` beats, its counters zeroed and then those of `t`
incremented. -/
def frame (seq : Seq) (scope : BitVec 4) (w h : Word) (k : DWord) (t : List Nat) : State :=
  { State.reset with
    seq := seq
    scope := scope
    width := w
    height := h
    k := k
    actScope := scope
    actWidth := w
    actHeight := h
    resultLen := BitVec.ofNat 32 (resultWords scope w)
    cnt := (State.reset.cnt.clear (resultWords scope w)).incrementAll t }

/-- A histogram frame of size 2^16 × (2^16 + 1) at cursor 2^32 - 1 whose counter 128 holds the given value (V-OV-1, V-OV-2). -/
def nearlyFull (low : Byte) : State :=
  { frame .run 1 0x10000 0x10001 0xFFFFFFFF [] with
    cnt := { cells := [(512, low), (513, 0xFF), (514, 0xFF), (515, 0xFF)], cleared := 768, epoch := 1 } }

/-- What a test reads of an outcome. -/
def after {β : Type} (o : Host.Outcome State Fault Refusal) (f : State → β) : Option β :=
  match o with
  | .next t => some (f t)
  | .fault _ => none
  | .refused _ => none

/-- STATUS as software reads it (R29). -/
def status (s : State) : Word := s.readReg 3

/-- ERR as software reads it (R31). -/
def err (s : State) : Word := s.readReg 6

/-- The response of one transaction. -/
def answer (s : State) (q : BusReq) : Option (Option Response) := after (exec (decodeReq s.caps.toNat q) s) State.rsp

/-- One transaction, then something of the state. -/
def afterReq {β : Type} (s : State) (q : BusReq) (f : State → β) : Option β :=
  after (exec (decodeReq s.caps.toNat q) s) f

/-! ### WellFormed refuses what no event means -/

theorem test_scope67_refuses : (Instr.startInvalidScope6_7 true 5).wellFormed 4096 = false := by decide
theorem test_scope815_refuses : (Instr.startInvalidScope8_15 true 7).wellFormed 4096 = false := by decide
theorem test_wrIgnored_refuses_ctrl : (Instr.wrIgnored 2).wellFormed 4096 = false := by decide
theorem test_wrIgnored_refuses_height : (Instr.wrIgnored 5).wellFormed 4096 = false := by decide
theorem test_rdResult_refuses : (Instr.rdResult 3145728).wellFormed 4096 = false := by decide
theorem test_wrResult_refuses : (Instr.wrResult 65536).wellFormed 1 = false := by decide
theorem test_misaligned_refuses : (Instr.buserrMisaligned true 8).wellFormed 4096 = false := by decide
theorem test_unmapped_refuses_misaligned : (Instr.buserrUnmapped true 0x101).wellFormed 4096 = false := by decide
theorem test_unmapped_refuses_register : (Instr.buserrUnmapped true 0xFC).wellFormed 4096 = false := by decide
theorem test_unmapped_refuses_window : (Instr.buserrUnmapped false 0x01BFFFFC).wellFormed 4096 = false := by decide

/-! ### Decoding, one word for each operation (R68, R73, R76; the CTRL words of `95_test_vectors.md` 2.5) -/

theorem test_dec_cfg : decodeReq 4096 (wr 0x008 0x00000034) = .cfg true 3 := by decide
theorem test_dec_histogram : decodeReq 4096 (wr 0x008 0xFFFFFF15) = .startHistogram true := by decide
theorem test_dec_histogram_bit3 : decodeReq 4096 (wr 0x008 0x00000019) = .startHistogram false := by decide
theorem test_dec_luma : decodeReq 4096 (wr 0x008 0x00000025) = .startWaveformLuma true := by decide
theorem test_dec_parade : decodeReq 4096 (wr 0x008 0x00000031) = .startWaveformParade false := by decide
theorem test_dec_vectorscopeA : decodeReq 4096 (wr 0x008 0x00000041) = .startVectorscopeA false := by decide
theorem test_dec_vectorscopeB : decodeReq 4096 (wr 0x008 0x00000051) = .startVectorscopeB false := by decide
theorem test_dec_scope0 : decodeReq 4096 (wr 0x008 0x00000001) = .startInvalidScope0 false := by decide
theorem test_dec_scope67 : decodeReq 4096 (wr 0x008 0x00000071) = .startInvalidScope6_7 false 7 := by decide
theorem test_dec_scope815 : decodeReq 4096 (wr 0x008 0x000000A1) = .startInvalidScope8_15 false 10 := by decide
theorem test_dec_abort : decodeReq 4096 (wr 0x008 0x00000013) = .abort true false 1 := by decide
theorem test_dec_abort_ones : decodeReq 4096 (wr 0x008 0xFFFFFFFF) = .abort true true 15 := by decide
theorem test_dec_wrStatus : decodeReq 4096 (wr 0x00C 0x00000104) = .wrStatus true false false := by decide
theorem test_dec_wrStatus_ignored : decodeReq 4096 (wr 0x00C 0x00000400) = .wrStatus false false true := by decide
theorem test_dec_wrWidth : decodeReq 4096 (wr 0x010 0x00001388) = .wrWidth 5000 := by decide
theorem test_dec_wrHeight : decodeReq 4096 (wr 0x014 0x00000002) = .wrHeight 2 := by decide
theorem test_dec_wrIgnored : decodeReq 4096 (wr 0x03C 0xFFFFFFFF) = .wrIgnored 15 := by decide
theorem test_dec_rdReg : decodeReq 4096 (rd 0x038) = .rdReg 14 := by decide
theorem test_dec_rdResult : decodeReq 4096 (rd 0x01BFFFFC) = .rdResult 3145727 := by decide
theorem test_dec_wrResult : decodeReq 4096 (wr 0x01000000 5) = .wrResult 0 := by decide
theorem test_dec_misaligned : decodeReq 4096 (wr 0x002 1) = .buserrMisaligned true 2 := by decide
theorem test_dec_unmapped : decodeReq 4096 (rd 0x100) = .buserrUnmapped false 0x100 := by decide
theorem test_dec_past_window : decodeReq 4096 (rd 0x01C00000) = .buserrUnmapped false 0x01C00000 := by decide
theorem test_dec_pixHistogram :
    decodeBeat .run 1 { data := 0x004C0E00, last := false } = .ok (.pixHistogram (rgb 0 14 76) false) := by decide
theorem test_dec_pixLuma :
    decodeBeat .run 2 { data := 0x000C4400, last := false } = .ok (.pixWaveformLuma (rgb 0 68 12) false) := by decide
theorem test_dec_pixParade :
    decodeBeat .run 3 { data := 0x000000FF, last := true } = .ok (.pixWaveformParade (rgb 255 0 0) true) := by decide
theorem test_dec_pixA :
    decodeBeat .run 4 { data := 0x00FF0000, last := false } = .ok (.pixVectorscopeA (rgb 0 0 255) false) := by decide
theorem test_dec_pixB :
    decodeBeat .run 5 { data := 0x00089301, last := true } = .ok (.pixVectorscopeB (rgb 1 147 8) true) := by decide
theorem test_dec_pixDrain :
    decodeBeat .drain 3 { data := 0x00090909, last := true } = .ok (.pixDrain (rgb 9 9 9) true) := by decide
theorem test_dec_idle_beat : decodeBeat .idle 1 { data := 0, last := true } = .reject .beatNotAccepted := by decide

/-- W = 1, ADDR = 0x008, WDATA = 0x15 as one number: 1 + 2 * 8 + 2^33 * 0x15. -/
theorem test_table_word_regop : decodeTableWord 72 (17 + 2 ^ 33 * 0x15) = some (.startHistogram true) := by decide
/-- s_data = 0x00808080, s_last = 1, STATE = RUN = 2, ACT_SCOPE = 4. -/
theorem test_table_word_beat :
    decodeTableWord 40 (0x00808080 + 2 ^ 32 + 2 ^ 33 * 2 + 2 ^ 36 * 4) = some (.pixVectorscopeA (rgb 128 128 128) true) := by
  decide

/-! ### Colour arithmetic (`95_test_vectors.md` 2.1 and 2.2) -/

theorem test_hist_cells : histogramCells (rgb 3 3 253) = [3, 259, 765] := by decide
theorem test_luma_tie_16 : lumaCells 3 2 (rgb 0 14 76) = [719] := by decide
theorem test_luma_tie_50 : lumaCells 3 2 (rgb 0 68 12) = [617] := by decide
theorem test_parade_cells : paradeCells 3 2 (rgb 1 147 8) = [764, 1094, 2279] := by decide
theorem test_policyA_red : policyACells (rgb 255 0 0) = [40447] := by decide
theorem test_policyA_blue : policyACells (rgb 0 0 255) = [372] := by decide
theorem test_policyB_tie : policyBCells (rgb 1 147 8) = [21592] := by decide
theorem test_policyB_tie' : policyBCells (rgb 3 3 253) = [29167] := by decide

/-! ### One step each (`95_test_vectors.md` 2.3 to 2.6) -/

theorem test_cfg : afterReq State.reset (wr 0x008 0x34) (fun t => (t.readReg 2, t.seq)) = some (0x34, .idle) := by decide
/-- V-ST-15: no width limit. -/
theorem test_start_hist :
    afterReq (sized 4097 1) (wr 0x008 0x11) (fun t => (t.seq, t.resultLen, err t)) = some (.clear, 768, 0) := by decide
/-- V-ST-2. -/
theorem test_start_luma :
    afterReq (sized 2 2) (wr 0x008 0x21) (fun t => (t.resultLen, t.actScope)) = some (512, 2) := by decide
/-- V-ST-13. -/
theorem test_start_luma_wide :
    afterReq (sized 4097 1) (wr 0x008 0x21) (fun t => (t.seq, err t, t.resultLen)) = some (.error, 0x103, 0) := by decide
/-- V-ST-16. -/
theorem test_start_parade :
    afterReq (sized 4096 1) (wr 0x008 0x31) (fun t => (t.seq, t.resultLen)) = some (.clear, 3145728) := by decide
/-- V-ST-17. -/
theorem test_start_vsa :
    afterReq (sized 0xFFFFFFFF 0xFFFFFFFF) (wr 0x008 0x41) (fun t => (t.seq, t.n, t.resultLen)) =
      some (.clear, (2 ^ 32 - 1) * (2 ^ 32 - 1), 65536) := by decide
/-- V-ST-10, with the VECTORSCOPE_B command. -/
theorem test_start_vsb :
    afterReq (sized 2 0) (wr 0x008 0x51) (fun t => (t.seq, err t)) = some (.error, 0x202) := by decide
/-- V-ST-6. -/
theorem test_start_scope0 :
    afterReq (sized 2 2) (wr 0x008 0x01) (fun t => (status t, err t)) = some (0x205, 0x001) := by decide
/-- V-ST-7. -/
theorem test_start_scope6 :
    afterReq (sized 2 2) (wr 0x008 0x61) (fun t => (status t, err t)) = some (0x205, 0x601) := by decide
/-- V-ST-12: the scope is checked first. -/
theorem test_start_scope9 :
    afterReq (sized 0 2) (wr 0x008 0x91) (fun t => (status t, err t)) = some (0x205, 0x901) := by decide
/-- P6: START while BUSY. -/
theorem test_start_busy :
    afterReq (frame .run 1 4 1 1 []) (wr 0x008 0x21) (fun t => (status t, t.actScope, t.readReg 2)) =
      some (0x40A, 1, 0x20) := by decide
/-- P6: ABORT keeps the cursor and START_IGNORED. -/
theorem test_abort :
    afterReq { frame .run 1 4 1 1 [] with startIgnored := true } (wr 0x008 0x22) (fun t => (status t, t.k, t.resultLen)) =
      some (0x400, 1, 0) := by decide
/-- V-RG-15. -/
theorem test_wrStatus :
    afterReq { frame .done 1 1 1 1 [] with doneIrq := true } (wr 0x00C 0x104) status = some 0x004 := by decide
/-- V-RG-16. -/
theorem test_wrStatus_error :
    afterReq { State.reset with seq := .error, errIrq := true, startIgnored := true } (wr 0x00C 0xFFFFFFFF) status =
      some 0x005 := by decide
/-- V-RG-18. -/
theorem test_wrWidth :
    afterReq (frame .run 1 4 1 0 []) (wr 0x010 8) (fun t => (t.width, t.actWidth)) = some (8, 4) := by decide
theorem test_wrHeight : afterReq (frame .run 1 4 1 0 []) (wr 0x014 8) (fun t => (t.height, t.actHeight)) = some (8, 1) := by
  decide
/-- V-RG-17. -/
theorem test_wrIgnored :
    afterReq (frame .run 1 4 1 3 []) (wr 0x024 7) (fun t => (t.k, t.rsp)) = some (3, some { rdata := 0, err := false }) := by
  decide
/-- V-RG-1. -/
theorem test_rd_id : answer State.reset (rd 0x000) = some (some { rdata := 0x4D475343, err := false }) := by decide
/-- V-FR-4: DRAIN with ERR_IRQ. -/
theorem test_rd_status :
    answer { State.reset with seq := .drain, errIrq := true } (rd 0x00C) = some (some { rdata := 0x20B, err := false }) := by
  decide
/-- V-FR-1: the counter of level 0 after one black pixel. -/
theorem test_rd_result :
    answer (frame .done 1 1 1 1 [0, 256, 512]) (rd 0x01000400) = some (some { rdata := 1, err := false }) := by decide
/-- V-RG-10: past RESULT_LEN. -/
theorem test_rd_result_past :
    answer (frame .done 1 1 1 1 [0, 256, 512]) (rd 0x01BFFFFC) = some (some { rdata := 0, err := false }) := by decide
/-- V-RG-13. -/
theorem test_wr_result : answer (frame .done 1 1 1 1 []) (wr 0x01000000 5) = some (some { rdata := 0, err := true }) := by
  decide
/-- V-RG-8: not a CTRL write. -/
theorem test_misaligned : afterReq (sized 2 2) (wr 0x002 1) (fun t => (t.seq, t.rsp)) =
    some (.idle, some { rdata := 0, err := true }) := by decide
/-- V-RG-9. -/
theorem test_unmapped : answer State.reset (rd 0x00FFFFFC) = some (some { rdata := 0, err := true }) := by decide
/-- V-OV-2. -/
theorem test_pixHistogram :
    after (exec (.pixHistogram (rgb 128 128 128) false) (nearlyFull 0xFE)) (fun t =>
      (t.seq, t.cnt.readWord 128, t.cnt.readWord 384, t.cnt.readWord 129)) = some (.run, 0xFFFFFFFF, 1, 0) := by decide
/-- V-OV-1. -/
theorem test_pixHistogram_overflow :
    after (exec (.pixHistogram (rgb 128 128 128) false) (nearlyFull 0xFF)) (fun t =>
      (t.seq, err t, t.errIndex)) = some (.drain, 0x203, 0xFFFFFFFF) := by decide
/-- V-COL-1. -/
theorem test_pixLuma :
    after (exec (.pixWaveformLuma (rgb 0 68 12) false) (frame .run 2 3 2 4 [])) (fun t =>
      (t.seq, t.cnt.readWord 616, t.cnt.readWord 617, t.k)) = some (.run, 1, 0, 5) := by decide
/-- V-WF-1. -/
theorem test_pixLuma_white :
    after (exec (.pixWaveformLuma (rgb 255 255 255) true) (frame .run 2 1 1 0 [])) (fun t =>
      (status t, t.cnt.readWord 0, t.cnt.readWord 255)) = some (0x104, 1, 0) := by decide
/-- P3, the second beat. -/
theorem test_pixParade :
    after (exec (.pixWaveformParade (rgb 0 255 0) true) (frame .run 3 2 1 1 [0, 1022, 1534])) (fun t =>
      (t.seq, t.cnt.readWord 511, t.cnt.readWord 513, t.cnt.readWord 1535)) = some (.done, 1, 1, 1) := by decide
/-- P5: LONG_FRAME. -/
theorem test_pixParade_long :
    after (exec (.pixWaveformParade (rgb 9 9 9) false) (frame .run 3 1 1 0 [])) (fun t => (status t, err t)) =
      some (0x20B, 0x402) := by decide
/-- V-VS-1, the last beat. -/
theorem test_pixA :
    after (exec (.pixVectorscopeA (rgb 128 128 128) true) (frame .run 4 2 2 3 [32896, 32896, 32896])) (fun t =>
      (t.seq, t.cnt.readWord 32896)) = some (.done, 4) := by decide
/-- P5: SHORT_FRAME. -/
theorem test_pixB :
    after (exec (.pixVectorscopeB (rgb 1 2 3) true) (frame .run 5 2 2 2 [])) (fun t =>
      (status t, err t, t.errIndex, t.k)) = some (0x205, 0x302, 2, 3) := by decide
/-- V-FR-4. -/
theorem test_pixDrain :
    after (exec (.pixDrain (rgb 9 9 9) true) { frame .drain 3 1 1 2 [] with errCode := 2, errDetail := 4 }) (fun t =>
      (t.seq, t.k, err t)) = some (.error, 3, 0x402) := by decide

/-! ### The step -/

/-- The word of START_HISTOGRAM with IRQ_EN, placed at reset, is what the next step runs: ZERO_WIDTH (2.5). -/
theorem test_step_word :
    after (step (State.reset.withFetchWord 72 (17 + 2 ^ 33 * 0x15))) (fun t => (status t, err t)) =
      some (0x205, 0x102) := by decide
/-- V-FR-5: a beat offered in ERROR stays with the source. -/
theorem test_step_beat_waits :
    after (step { State.reset with seq := .error, source := [{ data := 0, last := true }], schedule := [.beat] })
      (fun t => (t.k, t.source.length)) = some (0, 1) := by decide
theorem test_step_clear : after (step (frame .clear 1 2 2 0 [])) State.seq = some .run := by decide
theorem test_reset_memory : State.reset.cnt.wf = true := by decide

/-! ### Legal states for the witnesses -/

/-- Every frame that START lets through, at a cursor that fits its state and with counters of its own result, is a
legal state. -/
theorem legal_frame {seq : Seq} {c : BitVec 4} {w h : Word} {k : DWord} {t : List Nat}
    (hs : (seq = .clear ∧ k = 0 ∧ t = []) ∨ (seq = .run ∧ k.toNat < frameLen w h) ∨
      (seq = .done ∧ k.toNat = frameLen w h))
    (hc : 1 ≤ c.toNat ∧ c.toNat ≤ 5) (hw : 0 < w.toNat) (hh : 0 < h.toNat)
    (hm : c.toNat = 2 ∨ c.toNat = 3 → w.toNat ≤ 4096) : Legal (frame seq c w h k t) := by
  have hlen : (BitVec.ofNat 32 (resultWords c w)).toNat = resultWords c w := by
    unfold resultWords
    simp only [BitVec.toNat_ofNat]
    split <;> omega
  have key : FrameConfig (frame seq c w h k t) :=
    ⟨hc, hw, hh, hm, hlen, (Memory.incrementAll_cleared _ _).trans hlen.symm⟩
  have caps : 1 ≤ Config.wMaxAtReset.toNat ∧ Config.wMaxAtReset.toNat ≤ Config.wMaxLimit := by decide
  refine ⟨Memory.incrementAll_wf rfl t, caps, fun _ => key, ?_, ?_, ?_, ?_, ?_, rfl, fun _ => ⟨rfl, rfl⟩, ?_, ?_, ?_⟩
  all_goals
    obtain ⟨rfl, rfl, rfl⟩ | ⟨rfl, h'⟩ | ⟨rfl, h'⟩ := hs <;>
      simp [frame, State.reset, State.resetWith, State.n] <;> exact h'

/-- A sum in which exactly one counter was incremented is 1. -/
theorem sum_one {n : Nat} {t : List Nat} (hn : t.Nodup) (hc : ∀ j ∈ t, j < n) {start stride len l : Nat} (hl : l < len)
    (hin : start + stride * l ∈ t) (hout : ∀ q < len, q ≠ l → start + stride * q ∉ t)
    (hb : ∀ q < len, start + stride * q < n) :
    ((State.reset.cnt.clear n).incrementAll t).sumFrom start stride len = 1 := by
  have e : ∀ j, ((State.reset.cnt.clear n).incrementAll t).readWord j =
      (State.reset.cnt.clear n).readWord j + if j ∈ t then 1 else 0 :=
    Memory.readWord_incrementAll (by rfl) hn hc
  have z := Memory.sumFrom_clear State.reset.cnt (c := n) (start := start) (stride := stride) (n := len) hb
  rw [Memory.sumFrom_bump (m := State.reset.cnt.clear n) hl ?_ ?_, z]
  · rw [e, if_pos hin, Memory.clear_readWord _ (hb l hl)]
    rfl
  · intro q hq hne
    rw [e, if_neg (hout q hq hne)]
    simp

/-- The end of a 1 × 1 frame with the one black pixel, for each operation. -/
def blackDone (c : BitVec 4) : State :=
  frame .done c 1 1 1
    (match c.toNat with
      | 1 => [0, 256, 512]
      | 2 => [255]
      | 3 => [255, 511, 767]
      | _ => [32896])

theorem legal_blackDone {c : BitVec 4} (hc : 1 ≤ c.toNat ∧ c.toNat ≤ 5) : Legal (blackDone c) :=
  legal_frame (.inr (.inr ⟨rfl, rfl⟩)) hc (by decide) (by decide) (fun _ => by decide)

theorem counted_hist : PlanesCounted (blackDone 1) ∧ ColumnsCounted (blackDone 1) := by
  refine ⟨⟨fun _ _ c hc => ?_, nofun, nofun, nofun⟩, ⟨nofun, nofun⟩⟩
  exact sum_one (t := [0, 256, 512]) (n := 768) (l := 0) (by decide) (by decide) (by decide)
    (by simp; omega) (by simp; omega) (by omega)

theorem counted_luma : PlanesCounted (blackDone 2) ∧ ColumnsCounted (blackDone 2) := by
  refine ⟨⟨nofun, fun _ _ => ?_, nofun, nofun⟩, ⟨fun _ _ x hx => ?_, nofun⟩⟩
  · exact sum_one (t := [255]) (n := 256) (start := 0) (stride := 1) (len := 256) (l := 255) (by decide) (by decide)
      (by decide) (by decide) (by simp) (by omega)
  · obtain rfl : x = 0 := Nat.lt_one_iff.1 hx
    exact sum_one (t := [255]) (n := 256) (start := 0) (stride := 1) (len := 256) (l := 255) (by decide) (by decide)
      (by decide) (by decide) (by simp) (by omega)

theorem counted_parade : PlanesCounted (blackDone 3) ∧ ColumnsCounted (blackDone 3) := by
  have key : ∀ p < 3, ∀ start, start = p * 256 →
      ((State.reset.cnt.clear 768).incrementAll [255, 511, 767]).sumFrom start 1 256 = 1 := by
    rintro p hp start rfl
    exact sum_one (l := 255) (by decide) (by decide) (by decide) (by simp; omega) (by simp; omega) (by omega)
  refine ⟨⟨nofun, nofun, fun _ _ p hp => key p hp _ (Nat.mul_one _), nofun⟩, ⟨nofun, fun _ _ p hp x hx => ?_⟩⟩
  obtain rfl : x = 0 := Nat.lt_one_iff.1 hx
  exact key p hp _ (Nat.mul_one _)

theorem counted_vectorscope {c : BitVec 4} (hc : c = 4 ∨ c = 5) :
    PlanesCounted (blackDone c) ∧ ColumnsCounted (blackDone c) := by
  have key : ((State.reset.cnt.clear 65536).incrementAll [32896]).sumFrom 0 1 65536 = 1 :=
    sum_one (t := [32896]) (n := 65536) (start := 0) (stride := 1) (len := 65536) (l := 32896) (List.nodup_singleton _)
      (fun j hj => by rw [List.mem_singleton.1 hj]; omega) (by omega) (List.mem_singleton.2 (by omega))
      (fun q _ hne hm => hne (by have := List.mem_singleton.1 hm; omega)) (fun q hq => by omega)
  obtain rfl | rfl := hc
  · exact ⟨⟨nofun, nofun, nofun, fun _ _ => key⟩, ⟨nofun, nofun⟩⟩
  · exact ⟨⟨nofun, nofun, nofun, fun _ _ => key⟩, ⟨nofun, nofun⟩⟩

/-! ### Witnesses: one for each obligation with hypotheses, and for each of its clauses -/

theorem witness_DecodeOfEncode :
    (1 ≤ 1 ∧ 1 ≤ Config.wMaxLimit ∧ (Instr.rdResult 65535).wellFormed 1 = true) ∧
    (1 ≤ 1392640 ∧ 1392640 ≤ Config.wMaxLimit ∧ (Instr.wrResult 1069547519).wellFormed 1392640 = true) := by decide

theorem witness_DecodeTableWordOfEncode :
    (Instr.rdResult 3145727).wellFormed Config.wMaxAtReset.toNat = true ∧
    (Instr.startInvalidScope6_7 true 7).wellFormed Config.wMaxAtReset.toNat = true := by decide

theorem witness_IgnoredBitsDoNotDecode :
    (0x11 : Word) &&& 0xF7 = 0xFFFFFF19 &&& 0xF7 ∧ (0x300 : Word) &&& 0x700 = 0xFFFFFBFF &&& 0x700 ∧
    (rd 0x008).write = false ∧ (wr 0x009 0).addr.toNat % 4 ≠ 0 ∧ 256 ≤ (wr 0x100 0).addr.toNat ∧
    (wr 0x004 0).addr.toNat < 8 ∧ 24 ≤ (wr 0x018 0).addr.toNat := by decide

theorem witness_AddressDecodeCases :
    4096 ≤ Config.wMaxLimit ∧ (wr 0x00B 1).addr.toNat % 4 ≠ 0 ∧
    ((rd 0x0FC).addr.toNat % 4 = 0 ∧ (rd 0x0FC).addr.toNat < 256 ∧ (rd 0x0FC).write = false) ∧
    ((wr 0x014 1).addr.toNat % 4 = 0 ∧ (wr 0x014 1).addr.toNat < 256 ∧ (wr 0x014 1).write = true) ∧
    ((rd 0x01BFFFFC).addr.toNat % 4 = 0 ∧ 0x01000000 ≤ (rd 0x01BFFFFC).addr.toNat ∧
      (rd 0x01BFFFFC).addr.toNat < 0x01000000 + 4 * max 65536 (768 * 4096)) ∧
    ((rd 0x00FFFFFC).addr.toNat % 4 = 0 ∧ 256 ≤ (rd 0x00FFFFFC).addr.toNat ∧ (rd 0x00FFFFFC).addr.toNat < 0x01000000) ∧
    ((wr 0x01C00000 1).addr.toNat % 4 = 0 ∧
      0x01000000 + 4 * max 65536 (768 * 4096) ≤ (wr 0x01C00000 1).addr.toNat) := by decide

theorem witness_EveryRequestDecodesWellFormed : 1392640 ≤ Config.wMaxLimit := by decide

/-- The waveforms at width W_MAX, and the last counter of the longest result. -/
theorem witness_StartBeginsFrame :
    (sized 4096 1).busy = false ∧ (sized 4096 1).width.toNat ≠ 0 ∧ (sized 4096 1).height.toNat ≠ 0 ∧
    (sized 4096 1).width.toNat ≤ (sized 4096 1).caps.toNat ∧ 3145727 < 3145728 := by decide

theorem witness_InvalidScopeStartFails :
    (sized 2 2).busy = false ∧ ((6 : BitVec 4) = 6 ∨ (6 : BitVec 4) = 7) ∧ ((7 : BitVec 4) = 6 ∨ (7 : BitVec 4) = 7) ∧
    8 ≤ (8 : BitVec 4).toNat ∧ 8 ≤ (15 : BitVec 4).toNat := by decide

theorem witness_StartChecksInOrder :
    (startOperands (.startInvalidScope0 true) = some (true, 0) ∧ (sized 0 2).busy = false) ∧
    (startOperands (.startInvalidScope6_7 true 6) = some (true, 6) ∧ 6 ≤ (6 : BitVec 4).toNat) ∧
    (startOperands (.startHistogram true) = some (true, 1) ∧ 1 ≤ (1 : BitVec 4).toNat ∧ (sized 0 0).width.toNat = 0) ∧
    (startOperands (.startVectorscopeB true) = some (true, 5) ∧ (5 : BitVec 4).toNat ≤ 5 ∧
      (sized 2 0).width.toNat ≠ 0 ∧ (sized 2 0).height.toNat = 0) ∧
    (startOperands (.startWaveformLuma true) = some (true, 2) ∧ (sized 4097 1).width.toNat ≠ 0 ∧
      (sized 4097 1).height.toNat ≠ 0 ∧ (sized 4097 1).caps.toNat < (sized 4097 1).width.toNat) ∧
    (startOperands (.startWaveformParade true) = some (true, 3) ∧ (sized 4096 1).width.toNat ≠ 0 ∧
      (sized 4096 1).height.toNat ≠ 0 ∧ (sized 4096 1).width.toNat ≤ (sized 4096 1).caps.toNat ∧
      (sized 4096 1).busy = false) := by decide

theorem witness_StartWhileBusyIsIgnored :
    startOperands (.startInvalidScope8_15 true 9) = some (true, 9) ∧ (frame .clear 1 2 2 0 []).seq = .clear ∧
    startOperands (.startWaveformLuma false) = some (false, 2) ∧ (frame .run 1 2 2 1 []).seq = .run ∧
    (frame .drain 1 2 2 1 []).seq = .drain := by decide

theorem witness_RegisterReadValues :
    (0xE : BitVec 6) = 0xE ∧ 0xF ≤ (0xF : BitVec 6).toNat ∧ 0xF ≤ (0x3F : BitVec 6).toNat := by decide

theorem witness_CfgStoresIrqEnAndScope :
    (0x34 : Word).getLsbD 0 = false ∧ (0x34 : Word).getLsbD 1 = false ∧ (0xFFFFFFFC : Word).getLsbD 1 = false := by decide

theorem witness_AbortReturnsToIdle : (0x13 : Word).getLsbD 1 = true := by decide

theorem witness_IgnoredWriteChangesNothing :
    (0 : BitVec 6) = 0 ∧ (1 : BitVec 6) = 1 ∧ 6 ≤ (6 : BitVec 6).toNat ∧ 6 ≤ (63 : BitVec 6).toNat := by decide

/-- The last word of the window, which is the last word of the widest parade. -/
theorem witness_ResultWriteIsBusError :
    State.reset.caps.toNat ≤ Config.wMaxLimit ∧
    (3145727 : BitVec 30).toNat < max 65536 (768 * State.reset.caps.toNat) := by decide

/-- Word 767, the last of a histogram, and word 768, the first past it. -/
theorem witness_ResultRead :
    ((blackDone 1).caps.toNat ≤ Config.wMaxLimit ∧
      (3145727 : BitVec 30).toNat < max 65536 (768 * (blackDone 1).caps.toNat)) ∧
    State.reset.seq ≠ .done ∧
    ((blackDone 1).seq = .done ∧ (767 : BitVec 30).toNat < (blackDone 1).resultLen.toNat) ∧
    ((blackDone 1).seq = .done ∧ (blackDone 1).resultLen.toNat ≤ (768 : BitVec 30).toNat) := by decide

theorem witness_BusErrorExactlyWhen :
    State.reset.caps.toNat ≤ Config.wMaxLimit ∧ ({ State.reset with caps := 1392640 } : State).caps.toNat ≤ Config.wMaxLimit :=
  by decide

theorem witness_ReadsHaveNoSideEffect : (rd 0x01000000).write = false := by decide

/-- Every constructor has an event, so the second clause of the statement is met by a bus operation. -/
theorem witness_EveryOperationCompletes : Instr.wrWidth 3 = decodeReq 4096 (wr 0x010 3) := by decide

theorem witness_HistogramBeatCounts :
    Legal (frame .run 1 1 1 0 []) ∧ (frame .run 1 1 1 0 []).seq = .run ∧ (frame .run 1 1 1 0 []).actScope = 1 ∧
    (true = true ↔ (frame .run 1 1 1 0 []).k.toNat + 1 = (frame .run 1 1 1 0 []).n) ∧
    (∀ j ∈ [255, 256 + 0, 512 + 255], (frame .run 1 1 1 0 []).cnt.readWord j ≠ 0xFFFFFFFF) :=
  ⟨legal_frame (.inr (.inl ⟨rfl, by decide⟩)) (by decide) (by decide) (by decide) (by decide), by decide, by decide,
    by decide, by decide⟩

/-- White in the last column of the second row of a 3 × 2 frame: the cell of row 0, column 2. -/
theorem witness_LumaBeatCounts :
    Legal (frame .run 2 3 2 5 []) ∧ (frame .run 2 3 2 5 []).seq = .run ∧ (frame .run 2 3 2 5 []).actScope = 2 ∧
    (true = true ↔ (frame .run 2 3 2 5 []).k.toNat + 1 = (frame .run 2 3 2 5 []).n) ∧
    (2 = (255 - (2126 * (rgb 255 255 255).r.toNat + 7152 * (rgb 255 255 255).g.toNat
      + 722 * (rgb 255 255 255).b.toNat + 5000) / 10000) * (frame .run 2 3 2 5 []).actWidth.toNat
      + (frame .run 2 3 2 5 []).k.toNat % (frame .run 2 3 2 5 []).actWidth.toNat) ∧
    (frame .run 2 3 2 5 []).cnt.readWord 2 ≠ 0xFFFFFFFF :=
  ⟨legal_frame (.inr (.inl ⟨rfl, by decide⟩)) (by decide) (by decide) (by decide) (by decide), by decide, by decide,
    by decide, by decide, by decide⟩

/-- The second beat of program P3 (green, not the first column). -/
theorem witness_ParadeBeatCounts :
    Legal (frame .run 3 2 1 1 [0, 1022, 1534]) ∧ (frame .run 3 2 1 1 [0, 1022, 1534]).seq = .run ∧
    (frame .run 3 2 1 1 [0, 1022, 1534]).actScope = 3 ∧
    (true = true ↔ (frame .run 3 2 1 1 [0, 1022, 1534]).k.toNat + 1 = (frame .run 3 2 1 1 [0, 1022, 1534]).n) ∧
    ([511, 513, 1535] = [(255 - (rgb 0 255 0).r.toNat) * 2 + 1 % 2, 256 * 2 + (255 - (rgb 0 255 0).g.toNat) * 2 + 1 % 2,
      512 * 2 + (255 - (rgb 0 255 0).b.toNat) * 2 + 1 % 2]) ∧
    (∀ j ∈ [511, 513, 1535], (frame .run 3 2 1 1 [0, 1022, 1534]).cnt.readWord j ≠ 0xFFFFFFFF) :=
  ⟨legal_frame (.inr (.inl ⟨rfl, by decide⟩)) (by decide) (by decide) (by decide) (by decide), by decide, by decide,
    by decide, by decide, by decide⟩

/-- A red pixel inside a 2 × 2 frame: word 40447 (2.2). -/
theorem witness_VectorscopeABeatCounts :
    Legal (frame .run 4 2 2 0 []) ∧ (frame .run 4 2 2 0 []).seq = .run ∧ (frame .run 4 2 2 0 []).actScope = 4 ∧
    (false = true ↔ (frame .run 4 2 2 0 []).k.toNat + 1 = (frame .run 4 2 2 0 []).n) ∧
    ((542130 : Int) = 2126 * (255 : Byte).toNat + 7152 * (0 : Byte).toNat + 722 * (0 : Byte).toNat) ∧
    (((40447 : Nat) : Int) = (12850000000 - 5389 * (10000 * (0 : Byte).toNat - 542130)) / 100000000 * 256
      + (635 * (10000 * (255 : Byte).toNat - 542130) + 1285000000) / 10000000) ∧
    (frame .run 4 2 2 0 []).cnt.readWord 40447 ≠ 0xFFFFFFFF :=
  ⟨legal_frame (.inr (.inl ⟨rfl, by decide⟩)) (by decide) (by decide) (by decide) (by decide), by decide, by decide,
    by decide, by decide, by decide, by decide⟩

/-- The tie pixel (1, 147, 8): U = -79, V = -86, word 21592 (2.2). -/
theorem witness_VectorscopeBBeatCounts :
    Legal (frame .run 5 2 2 3 []) ∧ (frame .run 5 2 2 3 []).seq = .run ∧ (frame .run 5 2 2 3 []).actScope = 5 ∧
    (true = true ↔ (frame .run 5 2 2 3 []).k.toNat + 1 = (frame .run 5 2 2 3 []).n) ∧
    ((87500 : Int) = 299 * (1 : Byte).toNat + 587 * (147 : Byte).toNat + 114 * (8 : Byte).toNat) ∧
    ((-79 : Int) = (1000 * (8 : Byte).toNat - 87500 + 500) / 1000) ∧
    ((-86 : Int) = (1000 * (1 : Byte).toNat - 87500 + 500) / 1000) ∧
    (((21592 : Nat) : Int) = 128 * (-86 + 255) / 255 * 256 + 128 * (-79 + 255) / 255) ∧
    (frame .run 5 2 2 3 []).cnt.readWord 21592 ≠ 0xFFFFFFFF :=
  ⟨legal_frame (.inr (.inl ⟨rfl, by decide⟩)) (by decide) (by decide) (by decide) (by decide), by decide, by decide,
    by decide, by decide, by decide, by decide, by decide, by decide⟩

/-- The second last pixel with s_last, the last without, and V-OV-1 for the overflow. -/
theorem witness_BeatErrorsInPriorityOrder :
    (runBeat (frame .run 5 2 2 2 []) (.pixVectorscopeB (rgb 0 0 0) true) = some ([32896], true) ∧
      (frame .run 5 2 2 2 []).seq = .run ∧ (frame .run 5 2 2 2 []).k.toNat + 1 < (frame .run 5 2 2 2 []).n) ∧
    (runBeat (frame .run 3 1 1 0 []) (.pixWaveformParade (rgb 0 0 0) false) = some ([255, 511, 767], false) ∧
      (frame .run 3 1 1 0 []).seq = .run ∧ (frame .run 3 1 1 0 []).k.toNat + 1 = (frame .run 3 1 1 0 []).n) ∧
    (runBeat (nearlyFull 0xFF) (.pixHistogram (rgb 128 128 128) false) = some ([128, 384, 640], false) ∧
      (nearlyFull 0xFF).seq = .run ∧ (false = true ↔ (nearlyFull 0xFF).k.toNat + 1 = (nearlyFull 0xFF).n) ∧
      ∃ j ∈ [128, 384, 640], (nearlyFull 0xFF).cnt.readWord j = 0xFFFFFFFF) := by decide

theorem witness_DrainBeat : (frame .drain 1 1 1 0xFFFFFFFFFFFFFFFF []).seq = .drain := by decide

theorem witness_BeatCellsDistinctAndInResult :
    Legal (frame .run 3 4096 1 4095 []) ∧ (frame .run 3 4096 1 4095 []).seq = .run ∧
    decodeBeat .run (frame .run 3 4096 1 4095 []).actScope { data := 0, last := true } =
      .ok (.pixWaveformParade (rgb 0 0 0) true) :=
  ⟨legal_frame (.inr (.inl ⟨rfl, by decide⟩)) (by decide) (by decide) (by decide) (by decide), by decide, by decide⟩

theorem witness_StepRunsTheDecodedOperation :
    (({ State.reset with schedule := [.bus], hostReqs := [rd 0] } : State).schedule = .bus :: [] ∧
      ({ State.reset with schedule := [.bus], hostReqs := [rd 0] } : State).hostReqs = rd 0 :: []) ∧
    (∃ s : State, s.schedule = .beat :: [] ∧ s.source = { data := 0, last := true } :: [] ∧
      decodeBeat s.seq s.actScope { data := 0, last := true } = .ok (.pixHistogram (rgb 0 0 0) true)) :=
  ⟨by decide, { frame .run 1 1 1 0 [] with schedule := [.beat], source := [{ data := 0, last := true }] }, by decide⟩

theorem witness_TheOnlyEnabledEventHappens :
    (∃ s : State, s.schedule = [] ∧ s.hostReqs = rd 0 :: [] ∧ s.source = [] ∧ s.seq ≠ .clear) ∧
    (∃ s : State, s.schedule = [] ∧ s.hostReqs = [] ∧ s.source = { data := 0, last := true } :: [] ∧
      decodeBeat s.seq s.actScope { data := 0, last := true } = .ok (.pixDrain (rgb 0 0 0) true)) ∧
    (∃ s : State, s.schedule = [] ∧ s.hostReqs = [] ∧ s.seq = .clear) ∧
    (State.reset.schedule = [] ∧ State.reset.hostReqs = [] ∧ State.reset.source = [] ∧ State.reset.seq ≠ .clear) :=
  ⟨⟨{ State.reset with hostReqs := [rd 0] }, by decide⟩,
    ⟨{ State.reset with seq := .drain, source := [{ data := 0, last := true }] }, by decide⟩,
    ⟨frame .clear 1 1 1 0 [], by decide⟩, by decide⟩

theorem witness_BeatWaitsOutsideRunAndDrain :
    ∃ s : State, s.schedule = .beat :: [] ∧ s.seq ≠ .run ∧ s.seq ≠ .drain ∧ s.source ≠ [] :=
  ⟨{ State.reset with schedule := [.beat], source := [{ data := 0, last := true }] }, by decide⟩

theorem witness_ClearDoneEntersRun :
    (∃ s : State, s.schedule = .clear :: [] ∧ s.seq = .clear) ∧ (∃ s : State, s.schedule = .clear :: [] ∧ s.seq ≠ .clear) :=
  ⟨⟨{ frame .clear 1 1 1 0 [] with schedule := [.clear] }, by decide⟩, ⟨{ State.reset with schedule := [.clear] }, by decide⟩⟩

theorem witness_ResetEventResetsEverything : ∃ s : State, s.schedule = .reset true :: [] ∧ s.hostReqs ≠ [] :=
  ⟨{ State.reset with schedule := [.reset true], hostReqs := [wr 8 0] }, by decide⟩

theorem witness_BrokenHandshakeIsRefused :
    (∃ s : State, s.schedule = .hostBreach :: []) ∧ (∃ s : State, s.schedule = .sourceBreach :: []) :=
  ⟨⟨{ State.reset with schedule := [.hostBreach] }, by decide⟩, ⟨{ State.reset with schedule := [.sourceBreach] }, by decide⟩⟩

/-- The first beat of a 2 × 2 histogram frame, next in the schedule. -/
def beatNext : State := { frame .run 1 2 2 0 [] with schedule := [.beat], source := [{ data := 0, last := false }] }

theorem legal_beatNext : Legal beatNext := by
  have h : Legal (frame .run 1 2 2 0 []) :=
    legal_frame (.inr (.inl ⟨rfl, by decide⟩)) (by decide) (by decide) (by decide) (by decide)
  exact ⟨h.cnt_wf, h.caps_range,
    fun c => ⟨(h.frame c).scope_valid, (h.frame c).width_pos, (h.frame c).height_pos, (h.frame c).width_fits,
      (h.frame c).result_len, (h.frame c).cleared⟩,
    h.clear_cursor, h.run_cursor, h.done_cursor, h.done_flag, h.err_flag, h.err_table, h.err_none, h.err_some,
    h.idle_len, h.clear_cells⟩

/-- What the step answers from `beatNext`. -/
theorem step_beatNext :
    step beatNext = .next ((State.frameStep { beatNext with rsp := none, schedule := [], source := [] }
      (histogramCells (rgb 0 0 0)) false)) := rfl

theorem witness_LegalStepNeverStops :
    Legal beatNext ∧ ∀ t ∈ beatNext.schedule, t ≠ .hostBreach ∧ t ≠ .sourceBreach := ⟨legal_beatNext, by decide⟩

theorem witness_PlacedWordRunsNext :
    1 ≤ State.reset.caps.toNat ∧ State.reset.caps.toNat ≤ Config.wMaxLimit ∧
    (Instr.pixVectorscopeB (rgb 1 2 3) true).wellFormed State.reset.caps.toNat = true ∧
    (Instr.buserrUnmapped false 0x01C00000).wellFormed State.reset.caps.toNat = true := by decide

theorem witness_ResetIsLegal :
    (1 ≤ (1 : Word).toNat ∧ (1 : Word).toNat ≤ Config.wMaxLimit) ∧
    (1 ≤ (1392640 : Word).toNat ∧ (1392640 : Word).toNat ≤ Config.wMaxLimit) := by decide

theorem witness_StepKeepsStoreCanonical : beatNext.cnt.wf = true ∧ ∃ t, step beatNext = .next t :=
  ⟨by decide, _, step_beatNext⟩

theorem witness_StepKeepsLegal : Legal beatNext ∧ ∃ t, step beatNext = .next t := ⟨legal_beatNext, _, step_beatNext⟩

/-- Every counter of `beatNext` is 0. -/
theorem beatNext_readWord {i : Nat} (h : i < 768) : (beatNext.cnt.readWord i).toNat = 0 := by
  rw [show beatNext.cnt = State.reset.cnt.clear 768 from rfl, Memory.clear_readWord _ h]
  rfl

theorem witness_StepKeepsPlanesCounted :
    (Legal beatNext ∧ PlanesCounted beatNext ∧ ∃ t, step beatNext = .next t) ∧
    (Legal (frame .clear 2 4096 1 0 []) ∧ (frame .clear 2 4096 1 0 []).seq = .clear) ∧
    (CountedExactly beatNext [] ∧ ∃ t, step beatNext = .next t ∧
      pastAfter beatNext t [] = [{ data := 0, last := false }]) := by
  refine ⟨⟨legal_beatNext, ⟨fun _ _ c hc => ?_, nofun, nofun, nofun⟩, _, step_beatNext⟩,
    ⟨legal_frame (.inl ⟨rfl, rfl, rfl⟩) (by decide) (by decide) (by decide) (by decide), rfl⟩,
    ⟨fun _ => rfl, fun _ _ v hv => ?_, nofun, nofun, nofun, nofun⟩, _, step_beatNext, rfl⟩
  · exact Memory.sumFrom_clear State.reset.cnt (c := 768) (by omega)
  · exact ⟨beatNext_readWord (by omega), beatNext_readWord (by omega), beatNext_readWord (by omega)⟩

/-- A waveform frame, so that the columns are counted. -/
theorem witness_StepKeepsColumnsCounted :
    Legal (frame .run 2 3 2 0 []) ∧ ColumnsCounted (frame .run 2 3 2 0 []) ∧
    ∃ t, step (frame .run 2 3 2 0 []) = .next t := by
  refine ⟨legal_frame (.inr (.inl ⟨rfl, by decide⟩)) (by decide) (by decide) (by decide) (by decide),
    ⟨fun _ _ x hx => ?_, nofun⟩, _, rfl⟩
  have hx' : x < 3 := hx
  have e : columnBeats 0 3 x = 0 := by simp [columnBeats]
  exact (Memory.sumFrom_clear State.reset.cnt (c := 768) (start := x) (stride := 3) (n := 256) (by omega)).trans e.symm

/-- A completed frame of each operation. -/
theorem witness_DoneResultSums :
    (Legal (blackDone 1) ∧ PlanesCounted (blackDone 1) ∧ ColumnsCounted (blackDone 1) ∧ (blackDone 1).seq = .done) ∧
    (Legal (blackDone 2) ∧ PlanesCounted (blackDone 2) ∧ ColumnsCounted (blackDone 2) ∧ (blackDone 2).seq = .done) ∧
    (Legal (blackDone 3) ∧ PlanesCounted (blackDone 3) ∧ ColumnsCounted (blackDone 3) ∧ (blackDone 3).seq = .done) ∧
    (Legal (blackDone 4) ∧ PlanesCounted (blackDone 4) ∧ ColumnsCounted (blackDone 4) ∧ (blackDone 4).seq = .done) ∧
    (Legal (blackDone 5) ∧ PlanesCounted (blackDone 5) ∧ ColumnsCounted (blackDone 5) ∧ (blackDone 5).seq = .done) :=
  ⟨⟨legal_blackDone (by decide), counted_hist.1, counted_hist.2, rfl⟩,
    ⟨legal_blackDone (by decide), counted_luma.1, counted_luma.2, rfl⟩,
    ⟨legal_blackDone (by decide), counted_parade.1, counted_parade.2, rfl⟩,
    ⟨legal_blackDone (by decide), (counted_vectorscope (.inl rfl)).1, (counted_vectorscope (.inl rfl)).2, rfl⟩,
    ⟨legal_blackDone (by decide), (counted_vectorscope (.inr rfl)).1, (counted_vectorscope (.inr rfl)).2, rfl⟩⟩

/-- A 1 × 1 frame of one black beat meets the hypotheses, and does end in DONE. -/
def blackCompletes (c : BitVec 4) : Prop :=
  Legal (frame .clear c 1 1 0 []) ∧ (frame .clear c 1 1 0 []).seq = .clear ∧
  [({ data := 0, last := true } : Beat)].length =
    (frame .clear c 1 1 0 []).actWidth.toNat * (frame .clear c 1 1 0 []).actHeight.toNat ∧
  (∀ q ∈ [({ data := 0, last := true } : Beat)].zipIdx, (q.1.last = true ↔ q.2 + 1 = 1)) ∧ 1 < 2 ^ 32 ∧
  (acceptBeats [{ data := 0, last := true }] (frame .clear c 1 1 0 []).clearDone).seq = .done

theorem blackCompletes_of {c : BitVec 4} (hc : 1 ≤ c.toNat ∧ c.toNat ≤ 5)
    (hd : (acceptBeats [{ data := 0, last := true }] (frame .clear c 1 1 0 []).clearDone).seq = .done) :
    blackCompletes c :=
  ⟨legal_frame (.inl ⟨rfl, rfl, rfl⟩) hc (by decide) (by decide) (fun _ => by decide), rfl, rfl, by decide, by decide, hd⟩

theorem witness_DoneFrameCountsEveryPixel :
    blackCompletes 1 ∧ blackCompletes 2 ∧ blackCompletes 3 ∧ blackCompletes 4 ∧ blackCompletes 5 :=
  ⟨blackCompletes_of (by decide) (by decide), blackCompletes_of (by decide) (by decide),
    blackCompletes_of (by decide) (by decide), blackCompletes_of (by decide) (by decide),
    blackCompletes_of (by decide) (by decide)⟩

theorem witness_SequencerTransitions : ∃ t, step (frame .clear 1 2 2 0 []) = .next t ∧ t.seq = .run :=
  ⟨_, rfl, rfl⟩

/-- A read of the result, and a START that leaves DONE. -/
theorem witness_ResultFrozenInDone :
    (∃ s t : State, s.seq = .done ∧ step s = .next t ∧ t.seq = .done) ∧
    (∃ s t : State, s.seq = .done ∧ step s = .next t ∧ t.seq = .clear) :=
  ⟨⟨{ blackDone 1 with schedule := [.bus], hostReqs := [rd 0x01000000] }, _, rfl, rfl, rfl⟩,
    ⟨{ blackDone 1 with schedule := [.bus], hostReqs := [wr 0x008 0x51] }, _, rfl, rfl, rfl⟩⟩

theorem witness_OnlyStartLatchesConfiguration :
    (∃ t, exec (.wrWidth 8) (frame .run 1 4 1 0 []) = .next t ∧ startOperands (.wrWidth 8) = none) ∧
    (∃ t, exec (.startWaveformLuma false) (frame .run 1 4 1 0 []) = .next t ∧ (frame .run 1 4 1 0 []).busy = true) ∧
    (∃ t, exec (.startHistogram true) (sized 0 0) = .next t ∧ startOperands (.startHistogram true) = some (true, 1) ∧
      (sized 0 0).busy = false) := ⟨⟨_, rfl, rfl⟩, ⟨_, rfl, rfl⟩, ⟨_, rfl, rfl, rfl⟩⟩

theorem witness_StartIgnoredIsSticky :
    ∃ t, exec (.abort false false 0) { State.reset with startIgnored := true } = .next t ∧
      ({ State.reset with startIgnored := true } : State).startIgnored = true ∧
      ∀ d e, Instr.abort false false 0 ≠ .wrStatus d e true := ⟨_, rfl, rfl, nofun⟩

theorem witness_InterruptSources : Legal (blackDone 1) := legal_blackDone (by decide)

theorem witness_NoCountIsReadableOutsideDone :
    ∃ t t', (frame .run 1 2 2 1 [0]).seq ≠ .done ∧ exec (.rdResult 0) (frame .run 1 2 2 1 [0]) = .next t ∧
      exec (.rdResult 0) { frame .run 1 2 2 1 [0] with cnt := State.reset.cnt } = .next t' := ⟨_, _, nofun, rfl, rfl⟩

/-- DRAIN after the LONG_FRAME of V-FR-2, its interrupt acknowledged or not. -/
def drained (pending : Bool) : State :=
  { frame .drain 1 1 1 1 [] with cnt := State.reset.cnt.forget, errCode := 2, errDetail := 4, errIrq := pending }

theorem legal_drained (pending : Bool) : Legal (drained pending) :=
  ⟨rfl, by decide +revert, nofun, nofun, nofun, nofun, nofun, fun _ => .inl rfl, rfl, nofun, fun _ => by decide +revert,
    nofun, nofun⟩

theorem witness_FrameDependsOnlyOnConfigAndBeats :
    (∃ t t', startOperands (.startHistogram true) ≠ none ∧ (sized 2 2).busy = false ∧ (frame .done 5 2 2 4 []).busy = false ∧
      (sized 2 2).width = (frame .done 5 2 2 4 []).width ∧ (sized 2 2).height = (frame .done 5 2 2 4 []).height ∧
      exec (.startHistogram true) (sized 2 2) = .next t ∧
      exec (.startHistogram true) (frame .done 5 2 2 4 []) = .next t' ∧ t.seq = .clear ∧ t'.seq = .clear) ∧
    (∃ t t', Legal beatNext ∧ Legal (frame .run 1 2 2 0 []) ∧ SameFrame beatNext (frame .run 1 2 2 0 []) ∧
      decodeBeat beatNext.seq beatNext.actScope { data := 0, last := false } = .ok (.pixHistogram (rgb 0 0 0) false) ∧
      exec (.pixHistogram (rgb 0 0 0) false) beatNext = .next t ∧
      exec (.pixHistogram (rgb 0 0 0) false) (frame .run 1 2 2 0 []) = .next t') ∧
    (∃ t t', Legal (drained true) ∧ Legal (drained false) ∧ SameRequest (drained true) (drained false) ∧
      decodeBeat (drained true).seq (drained true).actScope { data := 0, last := true } =
        .ok (.pixDrain (rgb 0 0 0) true) ∧
      exec (.pixDrain (rgb 0 0 0) true) (drained true) = .next t ∧
      exec (.pixDrain (rgb 0 0 0) true) (drained false) = .next t') ∧
    SameFrame (frame .clear 1 2 2 0 []) { frame .clear 1 2 2 0 [] with irqEn := true } ∧
    (∃ t, startOperands (decodeReq 4096 (rd 0x00C)) = none ∧ (∀ st e c, decodeReq 4096 (rd 0x00C) ≠ .abort st e c) ∧
      (∀ d e g, decodeReq 4096 (rd 0x00C) ≠ .wrStatus d e g) ∧
      exec (decodeReq 4096 (rd 0x00C)) beatNext = .next t ∧ SameFrame beatNext (frame .run 1 2 2 0 [])) ∧
    (∃ t, startOperands (decodeReq 4096 (wr 0x00C 0x300)) = none ∧
      (∀ st e c, decodeReq 4096 (wr 0x00C 0x300) ≠ .abort st e c) ∧
      exec (decodeReq 4096 (wr 0x00C 0x300)) { blackDone 1 with doneIrq := true } = .next t ∧
      SameRequest { blackDone 1 with doneIrq := true } (blackDone 1)) :=
  ⟨⟨_, _, nofun, rfl, rfl, rfl, rfl, rfl, rfl, rfl, rfl⟩,
    ⟨_, _, legal_beatNext, legal_frame (.inr (.inl ⟨rfl, by decide⟩)) (by decide) (by decide) (by decide) (by decide),
      { SameFrame.refl beatNext with }, by decide, rfl, rfl⟩,
    ⟨_, _, legal_drained true, legal_drained false, { SameRequest.refl (drained true) with }, by decide, rfl, rfl⟩,
    { SameFrame.refl (frame .clear 1 2 2 0 []) with },
    ⟨_, rfl, nofun, nofun, rfl, { SameFrame.refl beatNext with }⟩,
    ⟨_, rfl, nofun, rfl, { SameRequest.refl (blackDone 1) with }⟩⟩

end Sys2Proof.Tests
end

section
/-! What a step does with the event the schedule names (`00_scope.md` R13, `30_encoding.md` R65). -/

namespace Sys2Proof.Machine

/-! ### The event of one agent -/

/-- The host's next request is decoded and taken. -/
theorem State.fetchBus_of_cons {s : State} {q : BusReq} {qs : List BusReq} (hq : s.hostReqs = q :: qs) :
    s.fetchBus = .run (decodeReq s.caps.toNat q) { s with hostReqs := qs } := by
  simp [State.fetchBus, hq]

/-- An accepted beat is taken from the source (R44). -/
theorem State.fetchBeat_of_accepted {s : State} {b : Beat} {bs : List Beat} {i : Instr} (hb : s.source = b :: bs)
    (hi : decodeBeat s.seq s.actScope b = .ok i) : s.fetchBeat = .run i { s with source := bs } := by
  simp [State.fetchBeat, hb, hi]

/-! ### The step of a scheduled turn -/

/-- A fetched operation is run on the state the fetch leaves. -/
theorem step_of_fetch_run {s s' : State} {i : Instr} (h : s.fetch = .run i s') : step s = exec i s' := by
  simp [step, h]

theorem step_of_scheduled_bus {s : State} {q : BusReq} {qs : List BusReq} {ts : List Turn}
    (ht : s.schedule = .bus :: ts) (hq : s.hostReqs = q :: qs) :
    step s = exec (decodeReq s.caps.toNat q) { s with rsp := none, schedule := ts, hostReqs := qs } := by
  apply step_of_fetch_run
  calc s.fetch = State.fetchBus { s with rsp := none, schedule := ts } := State.fetch_scheduled ht
    _ = .run (decodeReq s.caps.toNat q) { s with rsp := none, schedule := ts, hostReqs := qs } :=
      State.fetchBus_of_cons hq

theorem step_of_scheduled_beat {s : State} {b : Beat} {bs : List Beat} {ts : List Turn} {i : Instr}
    (ht : s.schedule = .beat :: ts) (hb : s.source = b :: bs) (hi : decodeBeat s.seq s.actScope b = .ok i) :
    step s = exec i { s with rsp := none, schedule := ts, source := bs } := by
  apply step_of_fetch_run
  calc s.fetch = State.fetchBeat { s with rsp := none, schedule := ts } := State.fetch_scheduled ht
    _ = .run i { s with rsp := none, schedule := ts, source := bs } := State.fetchBeat_of_accepted hb hi

/-- Settles O38: the schedule's head picks the agent (`State.fetch_scheduled`), and the agent's event is decoded and
taken. -/
theorem stepRunsTheDecodedOperation : Obligations.StepRunsTheDecodedOperation :=
  ⟨fun _ _ _ _ ht hq => step_of_scheduled_bus ht hq, fun _ _ _ _ _ ht hb hi => step_of_scheduled_beat ht hb hi⟩

end Sys2Proof.Machine
end

section
/-! What one operation and one step do to the block, each said once: every operation of `30_encoding.md` R76 is a
request or a beat, and a step is one event of `00_scope.md` R13. -/

namespace Sys2Proof.Machine

/-! ### One operation -/

/-- What a bus request does: the operations of `43_command_interface.md` R107 to R114 by name, and those that only
answer (R114, R115, R127 to R129, R55). -/
inductive RequestEffect (s : State) : Instr → State → Prop where
  | cfg (e : Bool) (c : BitVec 4) : RequestEffect s (.cfg e c) (s.storeCtrl e c).writeDone
  | start {i : Instr} {e : Bool} {c : BitVec 4} (hi : startOperands i = some (e, c)) :
      RequestEffect s i (s.start e c).writeDone
  | abort (st e : Bool) (c : BitVec 4) : RequestEffect s (.abort st e c) (s.storeCtrl e c).abort.writeDone
  | wrStatus (d e g : Bool) : RequestEffect s (.wrStatus d e g) (s.clearFlags d e g).writeDone
  | wrWidth (wd : Word) : RequestEffect s (.wrWidth wd) { s with width := wd }.writeDone
  | wrHeight (wd : Word) : RequestEffect s (.wrHeight wd) { s with height := wd }.writeDone
  | answer {i : Instr} (hi : startOperands i = none) (rdata : Word) (err : Bool) :
      RequestEffect s i (s.respond rdata err)

/-- A read of the result window only answers (R127, R128). -/
theorem execRdResult_answers {j : BitVec 30} {s t : State} (h : execRdResult j s = .next t) :
    ∃ rdata err, t = s.respond rdata err := by
  unfold execRdResult at h
  split at h
  · cases h; exact ⟨_, _, rfl⟩
  · split at h <;> cases h <;> exact ⟨_, _, rfl⟩

/-- Everything an operation can do: a request's effect, the frame step of a beat in RUN, or a beat of DRAIN. -/
theorem exec_cases {i : Instr} {s t : State} (h : exec i s = .next t) :
    RequestEffect s i t ∨
    (∃ cells last, runBeat s i = some (cells, last) ∧ t = s.frameStep cells last) ∨
    (∃ p last, i = .pixDrain p last ∧ t = s.drainStep last) := by
  cases i with
  | cfg e c => cases h; exact .inl (.cfg e c)
  | startHistogram _ | startWaveformLuma _ | startWaveformParade _ | startVectorscopeA _ | startVectorscopeB _
  | startInvalidScope0 _ | startInvalidScope6_7 _ _ | startInvalidScope8_15 _ _ => cases h; exact .inl (.start rfl)
  | abort st e c => cases h; exact .inl (.abort st e c)
  | wrStatus d e g => cases h; exact .inl (.wrStatus d e g)
  | wrWidth wd => cases h; exact .inl (.wrWidth wd)
  | wrHeight wd => cases h; exact .inl (.wrHeight wd)
  | wrIgnored _ | rdReg _ | wrResult _ | buserrMisaligned _ _ | buserrUnmapped _ _ =>
    cases h; exact .inl (.answer rfl _ _)
  | rdResult j =>
    obtain ⟨rdata, err, rfl⟩ := execRdResult_answers h
    exact .inl (.answer rfl rdata err)
  | pixHistogram _ _ | pixWaveformLuma _ _ | pixWaveformParade _ _ | pixVectorscopeA _ _ | pixVectorscopeB _ _ =>
    cases h; exact .inr (.inl ⟨_, _, rfl, rfl⟩)
  | pixDrain p last => cases h; exact .inr (.inr ⟨p, last, rfl, rfl⟩)

/-! ### What the decoder selects -/

/-- The operation is one of a beat, not of a bus request (R76). -/
def isBeatOp : Instr → Bool
  | .pixHistogram _ _ | .pixWaveformLuma _ _ | .pixWaveformParade _ _ | .pixVectorscopeA _ _ | .pixVectorscopeB _ _
  | .pixDrain _ _ => true
  | _ => false

/-- A beat operation of RUN is a beat operation. -/
theorem isBeatOp_of_runBeat {s : State} {i : Instr} {x : List Nat × Bool} (h : runBeat s i = some x) :
    isBeatOp i = true := by
  cases i with
  | pixHistogram _ _ | pixWaveformLuma _ _ | pixWaveformParade _ _ | pixVectorscopeA _ _ | pixVectorscopeB _ _ => rfl
  | _ => cases h

theorem isBeatOp_decodeStart (e : Bool) (c : BitVec 4) : isBeatOp (decodeStart e c) = false := by
  unfold decodeStart
  split <;> rfl

theorem isBeatOp_decodeCmd (wd : Word) : isBeatOp (decodeCmd wd) = false := by
  unfold decodeCmd
  split
  · rfl
  · split
    · exact isBeatOp_decodeStart _ _
    · rfl

theorem isBeatOp_decodeRegWrite (off : BitVec 6) (wd : Word) : isBeatOp (decodeRegWrite off wd) = false := by
  unfold decodeRegWrite
  split
  · exact isBeatOp_decodeCmd wd
  all_goals rfl

/-- The address decode of a request selects no beat operation (R67). -/
theorem isBeatOp_decodeReq (wMax : Nat) (q : BusReq) : isBeatOp (decodeReq wMax q) = false := by
  unfold decodeReq
  split
  · rfl
  split
  · split
    · exact isBeatOp_decodeRegWrite _ _
    · rfl
  split
  · split <;> rfl
  · rfl

/-- So a decoded request has the effect of a request. -/
theorem exec_decodeReq_effect {wMax : Nat} {q : BusReq} {s t : State} (h : exec (decodeReq wMax q) s = .next t) :
    RequestEffect s (decodeReq wMax q) t := by
  have hq := isBeatOp_decodeReq wMax q
  obtain hr | ⟨cells, last, hb, -⟩ | ⟨p, last, hp, -⟩ := exec_cases h
  · exact hr
  · simp [isBeatOp_of_runBeat hb] at hq
  · simp [hp, isBeatOp] at hq

/-- A beat is decoded in RUN and in DRAIN only (R44, R74). -/
theorem decodeBeat_eq_ok {seq : Seq} {c : BitVec 4} {b : Beat} {i : Instr} (h : decodeBeat seq c b = .ok i) :
    (seq = .run ∧ decodeRunBeat c (pixelOfData b.data) b.last = .ok i) ∨
    (seq = .drain ∧ i = .pixDrain (pixelOfData b.data) b.last) := by
  cases seq with
  | run => exact .inl ⟨rfl, h⟩
  | drain => cases h; exact .inr ⟨rfl, rfl⟩
  | idle | clear | done | error => cases h

/-- The beat operation that ACT_SCOPE selects in RUN does the frame step with its own increment list (R74, R118). -/
theorem exec_decodeRunBeat {c : BitVec 4} {p : Pixel} {last : Bool} {i : Instr} (h : decodeRunBeat c p last = .ok i)
    (s : State) : ∃ cells, runBeat s i = some (cells, last) ∧ exec i s = .next (s.frameStep cells last) := by
  unfold decodeRunBeat at h
  split at h <;> cases h <;> exact ⟨_, rfl, rfl⟩

/-! ### One step -/

/-- Everything CLEAR_DONE can do (R116). -/
theorem State.clearDone_cases (s : State) :
    (s.seq = .clear ∧ s.clearDone = { s with seq := .run }) ∨ (s.seq ≠ .clear ∧ s.clearDone = s) := by
  unfold State.clearDone
  split
  case isTrue hs => exact .inl ⟨hs, rfl⟩
  case isFalse hs => exact .inr ⟨hs, rfl⟩

/-- The block as an event finds it: the response of the event before is gone, and the agents have moved on (R13,
log entries 5 and 8). -/
def State.awaiting (s : State) (reqs : List BusReq) (src : List Beat) (sched : List Turn) (turns : Nat) : State :=
  { s with rsp := none, hostReqs := reqs, source := src, schedule := sched, freeTurns := turns }

/-- What one event does to the block (R13). -/
inductive EventEffect (s : State) : State → Prop where
  /-- Nothing happens, or a beat stays with the source (R44, R163). -/
  | wait : EventEffect s s
  /-- CLEAR_DONE, or its turn outside CLEAR (R116). -/
  | clearDone : EventEffect s s.clearDone
  /-- The reset line (R151). -/
  | reset (abandon : Bool) : EventEffect s (s.resetEvent abandon)
  /-- A bus request (R50). -/
  | request {q : BusReq} {t : State} (h : RequestEffect s (decodeReq s.caps.toNat q) t) : EventEffect s t
  /-- A beat accepted in RUN (R118). -/
  | pixel {p : Pixel} {last : Bool} {i : Instr} {cells : List Nat} (hs : s.seq = .run)
      (hd : decodeRunBeat s.actScope p last = .ok i) (hc : runBeat s i = some (cells, last)) :
      EventEffect s (s.frameStep cells last)
  /-- A beat accepted in DRAIN (R121). -/
  | drain (hs : s.seq = .drain) (last : Bool) : EventEffect s (s.drainStep last)

/-- The effect of an operation decoded from an accepted beat. -/
theorem eventEffect_of_decodeBeat {s t : State} {b : Beat} {i : Instr} (hd : decodeBeat s.seq s.actScope b = .ok i)
    (h : exec i s = .next t) : EventEffect s t := by
  obtain ⟨hs, hd⟩ | ⟨hs, rfl⟩ := decodeBeat_eq_ok hd
  · obtain ⟨cells, hc, he⟩ := exec_decodeRunBeat hd s
    cases he.symm.trans h
    exact .pixel hs hd hc
  · cases h
    exact .drain hs b.last

/-- A step that answers is one event, done on the block as the event finds it. -/
theorem step_effect {s t : State} (h : step s = .next t) :
    ∃ reqs src sched turns, EventEffect (s.awaiting reqs src sched turns) t := by
  unfold step at h
  obtain hf | ⟨turn, sched, n, hf⟩ := s.fetch_cases
  · rw [hf] at h
    cases h
    exact ⟨s.hostReqs, s.source, s.schedule, s.freeTurns, .wait⟩
  rw [hf] at h
  cases turn with
  | bus =>
    obtain hb | ⟨q, rest, -, hb⟩ := State.fetchBus_cases { s with rsp := none, schedule := sched, freeTurns := n } <;>
      simp only [State.fetchTurn, hb] at h
    · cases h
      exact ⟨s.hostReqs, s.source, sched, n, .wait⟩
    · exact ⟨rest, s.source, sched, n, .request (exec_decodeReq_effect h)⟩
  | beat =>
    obtain hb | hb | ⟨b, rest, i, -, hd, hb⟩ :=
        State.fetchBeat_cases { s with rsp := none, schedule := sched, freeTurns := n } <;>
      simp only [State.fetchTurn, hb] at h
    · cases h
      exact ⟨s.hostReqs, s.source, sched, n, .wait⟩
    · cases h
    · exact ⟨s.hostReqs, rest, sched, n, eventEffect_of_decodeBeat hd h⟩
  | clear =>
    cases h
    exact ⟨s.hostReqs, s.source, sched, n, .clearDone⟩
  | reset abandon =>
    cases h
    exact ⟨s.hostReqs, s.source, sched, n, .reset abandon⟩
  | hostBreach => cases h
  | sourceBreach => cases h

end Sys2Proof.Machine
end

section
/-! Which events write which registers (`10_state.md` R34, R35, R42, R29), the transitions of the sequencer (R23), and
the canonical form of the counter store (log entries 3 and 4). -/

namespace Sys2Proof.Machine

/-! ### What the frame step leaves alone -/

/-- Outside the cursor, the error registers, the counters, STATE and DONE_IRQ the frame step changes nothing, in any
state (R118 to R120, R136). -/
theorem State.frameStep_frame (s : State) (t : List Nat) (last : Bool) :
    s.frameStep t last =
      { s with
        k := s.k + 1
        errCode := (s.frameStep t last).errCode
        errDetail := (s.frameStep t last).errDetail
        errIndex := (s.frameStep t last).errIndex
        errIrq := (s.frameStep t last).errIrq
        cnt := (s.frameStep t last).cnt
        seq := (s.frameStep t last).seq
        doneIrq := (s.frameStep t last).doneIrq } := by
  unfold State.frameStep
  split
  · rfl
  split
  · rfl
  obtain ⟨-, e⟩ | ⟨-, e⟩ := State.accumulate_cases { s with k := s.k + 1 } t s.k last <;> rw [e]
  all_goals
    unfold State.completeAt
    split <;> rfl

@[simp] theorem State.frameStep_actScope (s : State) (t : List Nat) (last : Bool) :
    (s.frameStep t last).actScope = s.actScope := by rw [State.frameStep_frame]
@[simp] theorem State.frameStep_actWidth (s : State) (t : List Nat) (last : Bool) :
    (s.frameStep t last).actWidth = s.actWidth := by rw [State.frameStep_frame]
@[simp] theorem State.frameStep_actHeight (s : State) (t : List Nat) (last : Bool) :
    (s.frameStep t last).actHeight = s.actHeight := by rw [State.frameStep_frame]
@[simp] theorem State.frameStep_startIgnored (s : State) (t : List Nat) (last : Bool) :
    (s.frameStep t last).startIgnored = s.startIgnored := by rw [State.frameStep_frame]

/-! ### The latched configuration -/

/-- A START copies SCOPE, WIDTH and HEIGHT, unless it is ignored (R34, R35, R110). -/
theorem State.start_latched (s : State) (e : Bool) (c : BitVec 4) :
    (s.busy = true → (s.start e c).actScope = s.actScope ∧ (s.start e c).actWidth = s.actWidth ∧
      (s.start e c).actHeight = s.actHeight) ∧
    (s.busy = false → (s.start e c).actScope = c ∧ (s.start e c).actWidth = s.width ∧
      (s.start e c).actHeight = s.height) := by
  obtain ⟨hb, h⟩ | ⟨hb, _, -, h⟩ | ⟨hb, -, h⟩ := s.start_cases e c <;> simp [hb, h]

/-- A beat operation is no START. -/
theorem startOperands_of_runBeat {s : State} {i : Instr} {x : List Nat × Bool} (h : runBeat s i = some x) :
    startOperands i = none := by
  cases i with
  | pixHistogram _ _ | pixWaveformLuma _ _ | pixWaveformParade _ _ | pixVectorscopeA _ _ | pixVectorscopeB _ _ => rfl
  | _ => cases h

/-- The latched configuration is written by a START only. -/
theorem exec_keeps_latched {i : Instr} {s t : State} (h : exec i s = .next t) (hi : startOperands i = none) :
    t.actScope = s.actScope ∧ t.actWidth = s.actWidth ∧ t.actHeight = s.actHeight := by
  obtain hr | ⟨cells, last, -, rfl⟩ | ⟨p, last, -, rfl⟩ := exec_cases h
  · cases hr with
    | start hs => simp [hi] at hs
    | cfg | abort | wrStatus | wrWidth | wrHeight | answer => exact ⟨rfl, rfl, rfl⟩
  · simp
  · simp

/-- A START operation does START and answers. -/
theorem exec_of_startOperands {i : Instr} {s t : State} {e : Bool} {c : BitVec 4} (hi : startOperands i = some (e, c))
    (h : exec i s = .next t) : t = (s.start e c).writeDone := by
  obtain hr | ⟨cells, last, hb, -⟩ | ⟨p, last, rfl, -⟩ := exec_cases h
  · cases hr with
    | start hs => cases hs.symm.trans hi; rfl
    | answer hn => simp [hn] at hi
    | cfg | abort | wrStatus | wrWidth | wrHeight => cases hi
  · simp [startOperands_of_runBeat hb] at hi
  · cases hi

/-- Settles O56: only START writes the latched configuration (`exec_keeps_latched`), and START either is ignored or
copies (`State.start_latched`). -/
theorem onlyStartLatchesConfiguration : Obligations.OnlyStartLatchesConfiguration := by
  intro i s t h
  cases hi : startOperands i with
  | none => exact ⟨fun _ => exec_keeps_latched h hi, nofun⟩
  | some x =>
    obtain ⟨e, c⟩ := x
    obtain rfl := exec_of_startOperands hi h
    obtain ⟨hbusy, hfree⟩ := s.start_latched e c
    refine ⟨fun hb => hbusy (hb.resolve_left nofun), fun e' c' he hb => ?_⟩
    cases he
    exact hfree hb

/-! ### START_IGNORED -/

theorem State.start_startIgnored (s : State) (e : Bool) (c : BitVec 4) :
    (s.start e c).startIgnored = (s.startIgnored || s.busy) := by
  obtain ⟨hb, h⟩ | ⟨hb, _, -, h⟩ | ⟨hb, -, h⟩ := s.start_cases e c <;> simp [hb, h]

/-- Settles O57: the frame step does not touch the flag, START can only set it, and a STATUS write clears it with bit
10 = 1 alone. -/
theorem startIgnoredIsSticky : Obligations.StartIgnoredIsSticky := by
  intro i s t h hset hclr
  obtain hr | ⟨cells, last, -, rfl⟩ | ⟨p, last, -, rfl⟩ := exec_cases h
  · cases hr with
    | start => simp [State.start_startIgnored, hset]
    | wrStatus d e g =>
      cases g with
      | true => exact absurd rfl (hclr d e)
      | false => simp [hset]
    | cfg | abort | wrWidth | wrHeight | answer => exact hset
  · simpa using hset
  · exact hset

/-! ### The sequencer -/

theorem seqMay_refl (q : Seq) : seqMay q q = true := by cases q <;> rfl

theorem seqMay_idle (q : Seq) : seqMay q .idle = true := by cases q <;> rfl

/-- From a state that is not BUSY a START goes to CLEAR or to ERROR (R23). -/
theorem seqMay_of_not_busy {q : Seq} (h : seqBusy q = false) :
    seqMay q .clear = true ∧ seqMay q .error = true := by
  cases q with
  | idle | done | error => exact ⟨rfl, rfl⟩
  | clear | run | drain => cases h

theorem State.start_transition (s : State) (e : Bool) (c : BitVec 4) : seqMay s.seq (s.start e c).seq = true := by
  obtain ⟨-, h⟩ | ⟨hb, _, -, h⟩ | ⟨hb, -, h⟩ := s.start_cases e c <;> rw [h]
  · exact seqMay_refl s.seq
  · exact (seqMay_of_not_busy hb).2
  · exact (seqMay_of_not_busy hb).1

theorem RequestEffect.transition {i : Instr} {s t : State} (h : RequestEffect s i t) : seqMay s.seq t.seq = true := by
  cases h with
  | start => exact s.start_transition _ _
  | abort => exact seqMay_idle s.seq
  | cfg | wrStatus | wrWidth | wrHeight | answer => exact seqMay_refl s.seq

/-- A beat in RUN stays in RUN, completes the frame, or raises an error (R118). -/
theorem State.frameStep_seq {s : State} (hs : s.seq = .run) (t : List Nat) (last : Bool) :
    (s.frameStep t last).seq = .run ∨ (s.frameStep t last).seq = .done ∨
      (s.frameStep t last).seq = if last then .error else .drain := by
  obtain ⟨-, h⟩ | ⟨-, h⟩ | ⟨-, h⟩ | ⟨-, -, h⟩ | ⟨-, -, h⟩ := State.frameStep_cases hs t last <;> simp [h, hs]

theorem EventEffect.transition {s t : State} (h : EventEffect s t) : seqMay s.seq t.seq = true := by
  cases h with
  | wait => exact seqMay_refl s.seq
  | clearDone =>
    obtain ⟨hs, e⟩ | ⟨-, e⟩ := s.clearDone_cases <;> rw [e]
    · rw [hs]
      rfl
    · exact seqMay_refl s.seq
  | reset => exact seqMay_idle s.seq
  | request hr => exact hr.transition
  | @pixel _ last _ cells hs =>
    obtain h | h | h := State.frameStep_seq hs cells last <;> rw [h, hs]
    · rfl
    · rfl
    · cases last <;> rfl
  | drain hs last => cases last <;> simp [hs, seqMay]

/-- Settles O54: what an event does to STATE is one of the moves of R23. -/
theorem sequencerTransitions : Obligations.SequencerTransitions := by
  intro s t h
  obtain ⟨_, _, _, _, he⟩ := step_effect h
  exact he.transition

/-! ### The canonical form of the counter store -/

theorem State.start_cnt_wf {s : State} (h : s.cnt.wf = true) (e : Bool) (c : BitVec 4) :
    (s.start e c).cnt.wf = true := by
  obtain ⟨-, he⟩ | ⟨-, _, -, he⟩ | ⟨-, -, he⟩ := s.start_cases e c <;> simp [he, h]

theorem RequestEffect.keeps_cnt_wf {i : Instr} {s t : State} (h : RequestEffect s i t) (hw : s.cnt.wf = true) :
    t.cnt.wf = true := by
  cases h with
  | start => exact State.start_cnt_wf hw _ _
  | abort => exact Memory.forget_wf s.cnt
  | cfg | wrStatus | wrWidth | wrHeight | answer => exact hw

theorem State.frameStep_cnt_wf {s : State} (hs : s.seq = .run) (hw : s.cnt.wf = true) (t : List Nat) (last : Bool) :
    (s.frameStep t last).cnt.wf = true := by
  obtain ⟨-, h⟩ | ⟨-, h⟩ | ⟨-, h⟩ | ⟨-, -, h⟩ | ⟨-, -, h⟩ := State.frameStep_cases hs t last <;>
    simp [h, Memory.incrementAll_wf hw]

theorem EventEffect.keeps_cnt_wf {s t : State} (h : EventEffect s t) (hw : s.cnt.wf = true) : t.cnt.wf = true := by
  cases h with
  | wait => exact hw
  | clearDone =>
    obtain ⟨-, e⟩ | ⟨-, e⟩ := s.clearDone_cases <;> rw [e] <;> exact hw
  | reset => exact Memory.forget_wf s.cnt
  | request hr => exact hr.keeps_cnt_wf hw
  | pixel hs => exact State.frameStep_cnt_wf hs hw _ _
  | drain => exact hw

/-- Settles O48: the store is cleared, forgotten, incremented or left alone, and each keeps the canonical form. -/
theorem stepKeepsStoreCanonical : Obligations.StepKeepsStoreCanonical := by
  intro s t hw h
  obtain ⟨_, _, _, _, he⟩ := step_effect h
  exact he.keeps_cnt_wf hw

end Sys2Proof.Machine
end

section
/-! The legal states (`10_state.md` R21 to R46, `60_exceptions.md` R134 to R141): reset is legal, and every event keeps
the legal states legal. -/

namespace Sys2Proof.Machine

/-! ### Reset -/

/-- Settles O43: `State.resetWith` is R46's table read line by line. -/
theorem resetValues : Obligations.ResetValues :=
  fun _ => ⟨rfl, rfl, rfl, rfl, rfl, rfl, rfl, rfl, rfl, rfl, rfl, rfl, rfl, rfl, rfl, rfl, rfl, rfl, rfl, rfl, rfl,
    rfl, rfl⟩

/-- An IDLE state is legal with the store in form, both flags 0, no result and an ERR of R134 (R36). -/
theorem legal_idle {s : State} (hs : s.seq = .idle) (hwf : s.cnt.wf = true)
    (hcaps : 1 ≤ s.caps.toNat ∧ s.caps.toNat ≤ Config.wMaxLimit) (hflags : s.doneIrq = false ∧ s.errIrq = false)
    (herr : errListed s.errCode s.errDetail = true) (hlen : s.resultLen = 0) : Legal s :=
  have hc : s.counting = false := by simp [State.counting, hs]
  { cnt_wf := hwf
    caps_range := hcaps
    frame := by simp [hc]
    clear_cursor := by simp [hs]
    run_cursor := by simp [hs]
    done_cursor := by simp [hs]
    done_flag := by simp [hflags]
    err_flag := by simp [hflags]
    err_table := herr
    err_none := by simp [hc]
    err_some := by simp [hs]
    idle_len := fun _ => hlen
    clear_cells := by simp [hs] }

theorem legal_resetWith {w : Word} (hw : 1 ≤ w.toNat ∧ w.toNat ≤ Config.wMaxLimit) : Legal (State.resetWith w) :=
  legal_idle rfl rfl hw ⟨rfl, rfl⟩ rfl rfl

/-- No request has begun, so there is nothing to count. -/
theorem planesCounted_of_not_counting {s : State} (h : s.counting = false) : PlanesCounted s := by
  constructor <;> simp [h]

theorem columnsCounted_of_not_counting {s : State} (h : s.counting = false) : ColumnsCounted s := by
  constructor <;> simp [h]

/-- Settles O47: the reset state is IDLE, where only the values of R46 themselves are asked for. -/
theorem resetIsLegal : Obligations.ResetIsLegal :=
  fun _ h1 h2 => ⟨legal_resetWith ⟨h1, h2⟩, planesCounted_of_not_counting rfl, columnsCounted_of_not_counting rfl⟩

/-! ### The flags -/

/-- In a state where no request completed DONE_IRQ is 0 (R29). -/
theorem Legal.doneIrq_eq_false {s : State} (h : Legal s) (hs : s.seq ≠ .done) : s.doneIrq = false :=
  Bool.eq_false_iff.2 fun hd => hs (h.done_flag hd)

/-- In a state where no request failed ERR_IRQ is 0 (R29). -/
theorem Legal.errIrq_eq_false {s : State} (h : Legal s) (hs : s.seq ≠ .drain ∧ s.seq ≠ .error) : s.errIrq = false :=
  Bool.eq_false_iff.2 fun he => (h.err_flag he).elim hs.1 hs.2

/-- Settles O58: DONE_IRQ needs DONE, and ERR_IRQ needs DRAIN or ERROR. -/
theorem interruptSources : Obligations.InterruptSources := by
  intro s h
  refine ⟨by simp [State.irq], fun ⟨hd, he⟩ => ?_⟩
  rw [h.errIrq_eq_false (by simp [h.done_flag hd])] at he
  cases he

/-! ### Beats that wait -/

theorem decodeBeat_eq_reject {seq : Seq} {c : BitVec 4} {b : Beat} (h : seq ≠ .run ∧ seq ≠ .drain) :
    decodeBeat seq c b = .reject .beatNotAccepted := by
  cases seq with
  | run => exact absurd rfl h.1
  | drain => exact absurd rfl h.2
  | idle | clear | done | error => rfl

/-- Outside RUN and DRAIN a beat stays with the source (R44). -/
theorem State.fetchBeat_waits {s : State} (h : s.seq ≠ .run ∧ s.seq ≠ .drain) : s.fetchBeat = .quiet s := by
  unfold State.fetchBeat
  cases s.source with
  | nil => rfl
  | cons b rest => simp [decodeBeat_eq_reject h]

/-- Settles O40: the schedule names the source, whose beat is not accepted. -/
theorem beatWaitsOutsideRunAndDrain : Obligations.BeatWaitsOutsideRunAndDrain := by
  intro s ts ht hrun hdrain
  have hf : s.fetch = .quiet { s with rsp := none, schedule := ts } :=
    (State.fetch_scheduled ht).trans (State.fetchBeat_waits ⟨hrun, hdrain⟩)
  simp [step, hf]

/-! ### Numbers -/

/-- N fits the cursor (R12, R21). -/
theorem State.n_lt (s : State) : s.n < 2 ^ 64 := by
  have h : s.actWidth.toNat * s.actHeight.toNat < 2 ^ 32 * 2 ^ 32 :=
    Nat.mul_lt_mul'' s.actWidth.isLt s.actHeight.isLt
  exact h

/-- The cursor of a pixel of the frame does not wrap. -/
theorem State.k_succ_toNat {s : State} (h : s.k.toNat < s.n) : (s.k + 1).toNat = s.k.toNat + 1 := by
  have hn := s.n_lt
  rw [BitVec.toNat_add_of_lt (by simp; omega)]
  rfl

/-- The result of a START that passes its checks fits RESULT_LEN (R9, R39). -/
theorem resultWords_lt {caps w : Word} {scope : BitVec 4} (hcaps : caps.toNat ≤ Config.wMaxLimit)
    (hfit : scope.toNat = 2 ∨ scope.toNat = 3 → w.toNat ≤ caps.toNat) : resultWords scope w < 2 ^ 32 := by
  simp only [Config.wMaxLimit] at hcaps
  unfold resultWords
  split <;> omega

/-! ### The rows of R134 -/

theorem BlockError.code_ne_zero (e : BlockError) : e.code ≠ 0 := by cases e <;> simp [BlockError.code]

theorem errListed_invalidScope :
    ∀ c : BitVec 4, c.toNat = 0 ∨ 6 ≤ c.toNat → errListed 1 (c.setWidth 8) = true := by decide

/-- A START fails with a row of R134 (R135). -/
theorem errListed_of_startCheck {caps w h : Word} {scope : BitVec 4} {e : BlockError}
    (hc : startCheck caps scope w h = some e) : errListed e.code e.detail = true := by
  unfold startCheck at hc
  split at hc
  case isTrue hscope => cases hc; exact errListed_invalidScope scope hscope
  split at hc
  · cases hc; rfl
  split at hc
  · cases hc; rfl
  split at hc <;> cases hc
  rfl

/-! ### Legal states under the updates of the model -/

/-- `Legal` does not speak of the software's registers, the sticky START_IGNORED, ERR_INDEX or the agents. -/
theorem Legal.of_unread {s t : State} (h : Legal s)
    (e : t =
      { s with
        irqEn := t.irqEn
        scope := t.scope
        startIgnored := t.startIgnored
        width := t.width
        height := t.height
        errIndex := t.errIndex
        rsp := t.rsp
        hostReqs := t.hostReqs
        source := t.source
        schedule := t.schedule
        freeTurns := t.freeTurns }) : Legal t := by
  rw [e]
  exact { h with frame := fun hc => { h.frame hc with } }

theorem Legal.writeDone {s : State} (h : Legal s) : Legal s.writeDone := h.of_unread rfl

theorem Legal.storeCtrl {s : State} (h : Legal s) (e : Bool) (c : BitVec 4) : Legal (s.storeCtrl e c) :=
  h.of_unread rfl

theorem Legal.awaiting {s : State} (h : Legal s) (reqs : List BusReq) (src : List Beat) (sched : List Turn)
    (turns : Nat) : Legal (s.awaiting reqs src sched turns) := h.of_unread rfl

theorem w1c_le {b c : Bool} (h : w1c b c = true) : b = true :=
  (Bool.and_eq_true_iff.1 h).1

/-- A STATUS write can only clear the flags (R112). -/
theorem Legal.clearFlags {s : State} (h : Legal s) (d e g : Bool) : Legal (s.clearFlags d e g) :=
  { h with
    frame := fun hc => { h.frame hc with }
    done_flag := fun hd => h.done_flag (w1c_le hd)
    err_flag := fun he => h.err_flag (w1c_le he) }

/-- ABORT leaves a legal IDLE (R111, R140). -/
theorem Legal.abort {s : State} (h : Legal s) : Legal s.abort :=
  legal_idle rfl s.cnt.forget_wf h.caps_range ⟨rfl, rfl⟩ h.err_table rfl

/-- The reset line leaves a legal IDLE (R151). -/
theorem Legal.resetEvent {s : State} (h : Legal s) (abandon : Bool) : Legal (s.resetEvent abandon) :=
  legal_idle rfl s.cnt.forget_wf h.caps_range ⟨rfl, rfl⟩ rfl rfl

/-- A DRAIN or ERROR state is legal with the store in form, DONE_IRQ 0 and an error of R134, whatever the frame was
(R136). -/
theorem legal_failed {s : State} (hs : s.seq = .drain ∨ s.seq = .error) (hwf : s.cnt.wf = true)
    (hcaps : 1 ≤ s.caps.toNat ∧ s.caps.toNat ≤ Config.wMaxLimit) (hdone : s.doneIrq = false)
    (herr : errListed s.errCode s.errDetail = true) (hcode : s.errCode ≠ 0) : Legal s :=
  have hc : s.counting = false := by obtain e | e := hs <;> simp [State.counting, e]
  have hne : ∀ q, q ≠ .drain ∧ q ≠ .error → s.seq ≠ q := fun q hq e => (e ▸ hs).elim hq.1 hq.2
  { cnt_wf := hwf
    caps_range := hcaps
    frame := by simp [hc]
    clear_cursor := by simp [hne]
    run_cursor := by simp [hne]
    done_cursor := by simp [hne]
    done_flag := by simp [hdone]
    err_flag := fun _ => hs
    err_table := herr
    err_none := by simp [hc]
    err_some := fun _ => hcode
    idle_len := by simp [hne]
    clear_cells := by simp [hne] }

/-- An error of a beat leaves a legal DRAIN or ERROR. -/
theorem Legal.raiseOnBeat {s : State} (h : Legal s) (hs : s.seq = .run) {e : BlockError}
    (he : errListed e.code e.detail = true) (last : Bool) :
    Legal ({ s with k := s.k + 1 }.raiseOnBeat e s.k last) :=
  legal_failed (by cases last <;> simp) s.cnt.forget_wf h.caps_range (h.doneIrq_eq_false (by simp [hs])) he
    e.code_ne_zero

/-- A START that fails its checks leaves a legal ERROR (R109, R135). -/
theorem legal_failStart {s : State} (hcaps : 1 ≤ s.caps.toNat ∧ s.caps.toNat ≤ Config.wMaxLimit) {e : BlockError}
    (he : startCheck s.caps s.scope s.width s.height = some e) : Legal (s.latch.failStart e) :=
  legal_failed (.inr rfl) s.cnt.forget_wf hcaps rfl (errListed_of_startCheck he) e.code_ne_zero

/-- A START that passes its checks leaves a legal CLEAR (R108, R135). -/
theorem legal_startFrame {s : State} (hcaps : 1 ≤ s.caps.toNat ∧ s.caps.toNat ≤ Config.wMaxLimit)
    (hc : startCheck s.caps s.scope s.width s.height = none) : Legal s.latch.startFrame := by
  obtain ⟨hscope, hw, hh, hfit⟩ := startCheck_eq_none_iff.1 hc
  have hlen : (BitVec.ofNat 32 (resultWords s.scope s.width)).toNat = resultWords s.scope s.width := by
    rw [BitVec.toNat_ofNat, Nat.mod_eq_of_lt (resultWords_lt hcaps.2 hfit)]
  exact {
    cnt_wf := Memory.clear_wf _ _
    caps_range := hcaps
    frame := fun _ => ⟨hscope, hw, hh, hfit, hlen, hlen.symm⟩
    clear_cursor := fun _ => rfl
    run_cursor := nofun
    done_cursor := nofun
    done_flag := nofun
    err_flag := nofun
    err_table := rfl
    err_none := fun _ => ⟨rfl, rfl⟩
    err_some := nofun
    idle_len := nofun
    clear_cells := fun _ => rfl }

/-- A START is ignored, or leaves a legal ERROR or a legal CLEAR. -/
theorem Legal.start {s : State} (h : Legal s) (e : Bool) (c : BitVec 4) : Legal (s.start e c) := by
  obtain ⟨-, he⟩ | ⟨-, x, hx, he⟩ | ⟨-, hc, he⟩ := s.start_cases e c <;> rw [he]
  · exact h.of_unread rfl
  · exact legal_failStart (s := s.storeCtrl e c) h.caps_range hx
  · exact legal_startFrame h.caps_range hc

theorem RequestEffect.keeps_legal {i : Instr} {s t : State} (hr : RequestEffect s i t) (h : Legal s) : Legal t := by
  cases hr with
  | cfg e c => exact (h.storeCtrl e c).writeDone
  | start => exact (h.start _ _).writeDone
  | abort st e c => exact (h.storeCtrl e c).abort.writeDone
  | wrStatus d e g => exact (h.clearFlags d e g).writeDone
  | wrWidth | wrHeight | answer => exact h.of_unread rfl

/-- CLEAR_DONE enters RUN at the first pixel (R116). -/
theorem Legal.clearDone {s : State} (h : Legal s) : Legal s.clearDone := by
  obtain ⟨hs, e⟩ | ⟨-, e⟩ := s.clearDone_cases <;> rw [e]
  case inr => exact h
  have hc : s.counting = true := s.counting_iff.2 (.inl hs)
  have hf := h.frame hc
  exact { h with
    frame := fun _ => { hf with }
    clear_cursor := nofun
    run_cursor := fun _ => by
      rw [show s.k = 0 from h.clear_cursor hs]
      exact Nat.mul_pos hf.width_pos hf.height_pos
    done_cursor := nofun
    done_flag := fun hd => by simp [h.doneIrq_eq_false (by simp [hs])] at hd
    err_flag := fun he => by simp [h.errIrq_eq_false (by simp [hs])] at he
    err_none := fun _ => h.err_none hc
    err_some := nofun
    idle_len := nofun
    clear_cells := nofun }

/-- A pixel inside the frame leaves a legal RUN at the next cursor (R118, R119). -/
theorem Legal.pixel_inside {s : State} (h : Legal s) (hs : s.seq = .run) (hk : s.k.toNat + 1 < s.n)
    (cells : List Nat) : Legal { s with k := s.k + 1, cnt := s.cnt.incrementAll cells } :=
  { h with
    cnt_wf := Memory.incrementAll_wf h.cnt_wf cells
    frame := fun hc => { h.frame hc with cleared := (s.cnt.incrementAll_cleared cells).trans (h.frame hc).cleared }
    clear_cursor := fun hs' => by simp [hs] at hs'
    run_cursor := fun _ => (State.k_succ_toNat (h.run_cursor hs)).trans_lt hk
    done_cursor := fun hs' => by simp [hs] at hs'
    clear_cells := fun hs' => by simp [hs] at hs' }

/-- The last pixel leaves a legal DONE (R118, R120). -/
theorem Legal.pixel_last {s : State} (h : Legal s) (hs : s.seq = .run) (hk : s.k.toNat + 1 = s.n)
    (cells : List Nat) :
    Legal { s with k := s.k + 1, cnt := s.cnt.incrementAll cells, seq := .done, doneIrq := true } :=
  have hc : s.counting = true := s.counting_iff.2 (.inr (.inl hs))
  { h with
    cnt_wf := Memory.incrementAll_wf h.cnt_wf cells
    frame := fun _ => { h.frame hc with cleared := (s.cnt.incrementAll_cleared cells).trans (h.frame hc).cleared }
    clear_cursor := nofun
    run_cursor := nofun
    done_cursor := fun _ => (State.k_succ_toNat (h.run_cursor hs)).trans hk
    done_flag := fun _ => rfl
    err_flag := fun he => by simp [h.errIrq_eq_false (by simp [hs])] at he
    err_none := fun _ => h.err_none hc
    err_some := nofun
    idle_len := nofun
    clear_cells := nofun }

/-- A beat in RUN raises an error of R134, counts a pixel inside the frame, or completes it (R118). -/
theorem Legal.frameStep {s : State} (h : Legal s) (hs : s.seq = .run) (cells : List Nat) (last : Bool) :
    Legal (s.frameStep cells last) := by
  have hk := h.run_cursor hs
  obtain ⟨-, e⟩ | ⟨-, e⟩ | ⟨-, e⟩ | ⟨hin, -, e⟩ | ⟨⟨-, hlast⟩, -, e⟩ := State.frameStep_cases hs cells last <;> rw [e]
  · exact h.raiseOnBeat hs rfl last
  · exact h.raiseOnBeat hs rfl last
  · exact h.raiseOnBeat hs rfl last
  · exact h.pixel_inside hs (by omega) cells
  · exact h.pixel_last hs hlast cells

/-- A beat in DRAIN is only counted by the cursor, and the last one enters ERROR (R121). -/
theorem Legal.drainStep {s : State} (h : Legal s) (hs : s.seq = .drain) (last : Bool) : Legal (s.drainStep last) :=
  legal_failed (by cases last <;> simp [hs]) h.cnt_wf h.caps_range (h.doneIrq_eq_false (by simp [hs])) h.err_table
    (h.err_some (.inl hs))

theorem EventEffect.keeps_legal {s t : State} (he : EventEffect s t) (h : Legal s) : Legal t := by
  cases he with
  | wait => exact h
  | clearDone => exact h.clearDone
  | reset abandon => exact h.resetEvent abandon
  | request hr => exact hr.keeps_legal h
  | pixel hs => exact h.frameStep hs _ _
  | drain hs last => exact h.drainStep hs last

/-- Settles O49: a step is one event on the block with its agents moved on, and no event leaves the legal states. -/
theorem stepKeepsLegal : Obligations.StepKeepsLegal := by
  intro s t h hst
  obtain ⟨reqs, src, sched, turns, he⟩ := step_effect hst
  exact he.keeps_legal (h.awaiting reqs src sched turns)

end Sys2Proof.Machine
end

section
/-! The bus of `20_memory.md`: the four cases of the address decode, which transactions are bus errors (R55) and what a
read leaves unchanged (R58); the selection of a beat's operation (R52); and the next event where no schedule names it
(R60). -/

namespace Sys2Proof.Machine

/-! ### The address decode -/

/-- The word alignment of an address, as a number. -/
theorem aligned_iff (a : Word) : a.extractLsb' 0 2 = 0 ↔ a.toNat % 4 = 0 := by
  simp [← BitVec.toNat_inj, BitVec.extractLsb'_toNat]

/-- The register block is the first 256 bytes (R54). -/
theorem registerBlock_iff (a : Word) : a.extractLsb' 8 24 = 0 ↔ a.toNat < 0x100 := by
  have h := a.isLt
  rw [← BitVec.toNat_inj, BitVec.extractLsb'_toNat, Nat.shiftRight_eq_div_pow]
  change a.toNat / 2 ^ 8 % 2 ^ 24 = 0 ↔ _
  omega

theorem inResultWindow_iff (wMax a : Nat) :
    inResultWindow wMax a = true ↔ 0x01000000 ≤ a ∧ a < 0x01000000 + 4 * max 65536 (768 * wMax) := by
  unfold inResultWindow
  rw [Bool.and_eq_true, decide_eq_true_iff, decide_eq_true_iff]
  rfl

/-- Everything the address decode can answer, the four cases of R67 by the address as a number. -/
theorem decodeReq_cases (wMax : Nat) (q : BusReq) :
    (q.addr.toNat % 4 ≠ 0 ∧ decodeReq wMax q = .buserrMisaligned q.write q.addr) ∨
    ((q.addr.toNat % 4 = 0 ∧ q.addr.toNat < 0x100) ∧
      decodeReq wMax q =
        if q.write then decodeRegWrite (regOffset q.addr) q.wdata else .rdReg (regOffset q.addr)) ∨
    ((q.addr.toNat % 4 = 0 ∧ 0x01000000 ≤ q.addr.toNat ∧
        q.addr.toNat < 0x01000000 + 4 * max 65536 (768 * wMax)) ∧
      decodeReq wMax q = if q.write then .wrResult (resultIndex q.addr) else .rdResult (resultIndex q.addr)) ∨
    ((q.addr.toNat % 4 = 0 ∧ (0x100 ≤ q.addr.toNat ∧ q.addr.toNat < 0x01000000 ∨
        0x01000000 + 4 * max 65536 (768 * wMax) ≤ q.addr.toNat)) ∧
      decodeReq wMax q = .buserrUnmapped q.write q.addr) := by
  unfold decodeReq
  simp only [ne_eq, aligned_iff, registerBlock_iff, inResultWindow_iff]
  by_cases hal : q.addr.toNat % 4 = 0
  case neg => exact .inl ⟨hal, if_pos hal⟩
  rw [if_neg (not_not_intro hal)]
  by_cases hreg : q.addr.toNat < 0x100
  case pos => exact .inr (.inl ⟨⟨hal, hreg⟩, if_pos hreg⟩)
  rw [if_neg hreg]
  by_cases hwin : 0x01000000 ≤ q.addr.toNat ∧ q.addr.toNat < 0x01000000 + 4 * max 65536 (768 * wMax)
  case pos => exact .inr (.inr (.inl ⟨⟨hal, hwin⟩, if_pos hwin⟩))
  exact .inr (.inr (.inr ⟨⟨hal, by omega⟩, if_neg hwin⟩))

/-! ### What a transaction answers -/

theorem exec_buserrMisaligned (w : Bool) (a : Word) (s : State) :
    exec (.buserrMisaligned w a) s = .next s.busError := rfl

theorem exec_buserrUnmapped (w : Bool) (a : Word) (s : State) :
    exec (.buserrUnmapped w a) s = .next s.busError := rfl

theorem exec_wrResult (i : BitVec 30) (s : State) : exec (.wrResult i) s = .next s.busError := rfl

theorem exec_rdReg (off : BitVec 6) (s : State) : exec (.rdReg off) s = .next (s.respond (s.readReg off) false) := rfl

theorem exec_rdResult_of_not_done {s : State} (h : s.seq ≠ .done) (i : BitVec 30) :
    exec (.rdResult i) s = .next s.busError := if_pos h

/-- In DONE a word of the window reads as its counter, or as 0 past the result (R127, R128). -/
theorem exec_rdResult_of_done {s : State} (h : s.seq = .done) (i : BitVec 30) :
    exec (.rdResult i) s =
      .next (s.respond (if i.toNat < s.resultLen.toNat then s.cnt.readWord i.toNat else 0) false) := by
  calc exec (.rdResult i) s
    _ = if i.toNat < s.resultLen.toNat then .next (s.respond (s.cnt.readWord i.toNat) false)
        else .next (s.respond 0 false) := if_neg (not_not_intro h)
    _ = _ := by split <;> rfl

theorem exec_decodeStart (e : Bool) (c : BitVec 4) (s : State) :
    ∃ t : State, exec (decodeStart e c) s = .next t.writeDone := by
  unfold decodeStart
  split <;> exact ⟨_, rfl⟩

theorem exec_decodeCmd (wd : Word) (s : State) : ∃ t : State, exec (decodeCmd wd) s = .next t.writeDone := by
  unfold decodeCmd
  split
  · exact ⟨_, rfl⟩
  split
  · exact exec_decodeStart _ _ s
  · exact ⟨_, rfl⟩

/-- Every register write is answered without an error, whatever it does (R106). -/
theorem exec_decodeRegWrite (off : BitVec 6) (wd : Word) (s : State) :
    ∃ t : State, exec (decodeRegWrite off wd) s = .next t.writeDone := by
  unfold decodeRegWrite
  split
  · exact exec_decodeCmd wd s
  all_goals exact ⟨_, rfl⟩

/-- Settles O21: both rows are the bus error of the model. -/
theorem badAddressIsBusError : Obligations.BadAddressIsBusError :=
  fun s w a => ⟨exec_buserrMisaligned w a s, exec_buserrUnmapped w a s⟩

/-! ### Which transactions are bus errors (R55) -/

/-- The operation answers with a response whose err is 1 exactly under `P`; an error has data 0 and changes nothing
else. -/
def ErrsExactlyWhen (i : Instr) (s : State) (P : Prop) : Prop :=
  ∃ (t : State) (r : Response), exec i s = .next t ∧ t.rsp = some r ∧ (r.err = true ↔ P) ∧
    (r.err = true → r.rdata = 0 ∧ t = { s with rsp := some r })

theorem ErrsExactlyWhen.of_busError {i : Instr} {s : State} {P : Prop} (he : exec i s = .next s.busError) (hP : P) :
    ErrsExactlyWhen i s P :=
  ⟨s.busError, { rdata := 0, err := true }, he, rfl, iff_of_true rfl hP, fun _ => ⟨rfl, rfl⟩⟩

theorem ErrsExactlyWhen.of_answer {i : Instr} {s t : State} {rdata : Word} {P : Prop}
    (he : exec i s = .next (t.respond rdata false)) (hP : ¬P) : ErrsExactlyWhen i s P :=
  ⟨t.respond rdata false, { rdata := rdata, err := false }, he, rfl, iff_of_false Bool.false_ne_true hP, nofun⟩

theorem ErrsExactlyWhen.congr {i : Instr} {s : State} {P Q : Prop} (h : ErrsExactlyWhen i s P) (e : P ↔ Q) :
    ErrsExactlyWhen i s Q := propext e ▸ h

/-- A register access is never a bus error. -/
theorem registerAccess_errs {s : State} (write : Bool) (off : BitVec 6) (wd : Word) {P : Prop} (hP : ¬P) :
    ErrsExactlyWhen (if write then decodeRegWrite off wd else .rdReg off) s P := by
  cases write with
  | true =>
    obtain ⟨t, ht⟩ := exec_decodeRegWrite off wd s
    exact .of_answer ht hP
  | false => exact .of_answer (exec_rdReg off s) hP

/-- An access of the result window is a bus error unless it is a read in DONE (R127, R129). -/
theorem windowAccess_errs (s : State) (write : Bool) (i : BitVec 30) :
    ErrsExactlyWhen (if write then .wrResult i else .rdResult i) s (write = true ∨ s.seq ≠ .done) := by
  cases write with
  | true => exact .of_busError (exec_wrResult i s) (.inl rfl)
  | false =>
    by_cases hs : s.seq = .done
    · exact .of_answer (exec_rdResult_of_done hs i) (by simp [hs])
    · exact .of_busError (exec_rdResult_of_not_done hs i) (.inr hs)

/-- Settles O22, by the four cases of the address decode. -/
theorem busErrorExactlyWhen : Obligations.BusErrorExactlyWhen := by
  intro s q _
  change ErrsExactlyWhen _ s _
  obtain ⟨hal, hd⟩ | ⟨hreg, hd⟩ | ⟨⟨hal, hlo, hhi⟩, hd⟩ | ⟨⟨-, hmap⟩, hd⟩ := decodeReq_cases s.caps.toNat q <;>
    rw [hd]
  · exact .of_busError (exec_buserrMisaligned _ _ s) (.inl hal)
  · exact registerAccess_errs _ _ _ (by omega)
  · -- An aligned address inside the window meets only the last two cases of R55.
    refine (windowAccess_errs s q.write _).congr ?_
    have hlow : ¬q.addr.toNat < 0x01000000 := by omega
    have hhigh : ¬0x01000000 + 4 * max 65536 (768 * s.caps.toNat) ≤ q.addr.toNat := by omega
    cases q.write <;> simp [hal, hlo, hlow, hhigh]
  · exact .of_busError (exec_buserrUnmapped _ _ s) (by omega)

/-! ### Reads (R58) -/

/-- The operation only answers, and the answer does not depend on an earlier response. -/
def OnlyAnswers (i : Instr) (s : State) (r : Response) : Prop :=
  ∀ x : Option Response, exec i { s with rsp := x } = .next { s with rsp := some r }

theorem rdResult_onlyAnswers (i : BitVec 30) (s : State) : ∃ r, OnlyAnswers (.rdResult i) s r := by
  by_cases hs : s.seq = .done
  · exact ⟨{ rdata := if i.toNat < s.resultLen.toNat then s.cnt.readWord i.toNat else 0, err := false },
      fun x => exec_rdResult_of_done (s := { s with rsp := x }) hs i⟩
  · exact ⟨{ rdata := 0, err := true }, fun x => exec_rdResult_of_not_done (s := { s with rsp := x }) hs i⟩

theorem read_onlyAnswers {q : BusReq} (hq : q.write = false) (wMax : Nat) (s : State) :
    ∃ r, OnlyAnswers (decodeReq wMax q) s r := by
  obtain ⟨-, hd⟩ | ⟨-, hd⟩ | ⟨-, hd⟩ | ⟨-, hd⟩ := decodeReq_cases wMax q <;> rw [hd]
  · exact ⟨{ rdata := 0, err := true }, fun x => exec_buserrMisaligned _ _ { s with rsp := x }⟩
  · rw [hq]
    exact ⟨{ rdata := s.readReg (regOffset q.addr), err := false },
      fun x => exec_rdReg (regOffset q.addr) { s with rsp := x }⟩
  · rw [hq]
    exact rdResult_onlyAnswers _ s
  · exact ⟨{ rdata := 0, err := true }, fun x => exec_buserrUnmapped _ _ { s with rsp := x }⟩

/-- Settles O23: a read only answers, the same after any response, so also after its own. -/
theorem readsHaveNoSideEffect : Obligations.ReadsHaveNoSideEffect := by
  intro s q wMax hq
  obtain ⟨r, hr⟩ := read_onlyAnswers hq wMax s
  exact ⟨r, hr s.rsp, hr (some r)⟩

/-! ### The samples of a beat (R52) and its operation (R74) -/

/-- The samples are the bytes of `s_data`, the least significant first. -/
theorem pixelOfData_toNat (d : Word) :
    (pixelOfData d).r.toNat = d.toNat % 256 ∧ (pixelOfData d).g.toNat = d.toNat / 256 % 256 ∧
      (pixelOfData d).b.toNat = d.toNat / 65536 % 256 ∧ (pixelOfData d).a.toNat = d.toNat / 16777216 := by
  have h := d.isLt
  have byte_toNat (start : Nat) : (d.extractLsb' start 8).toNat = d.toNat / 2 ^ start % 256 := by
    rw [BitVec.extractLsb'_toNat, Nat.shiftRight_eq_div_pow]
  exact ⟨(byte_toNat 0).trans (by omega), byte_toNat 8, byte_toNat 16, (byte_toNat 24).trans (by omega)⟩

/-- Settles O7: the decoder's table of R74 read line by line, on the samples of `pixelOfData`. -/
theorem beatSelection : Obligations.BeatSelection :=
  fun b => ⟨pixelOfData b.data, pixelOfData_toNat b.data, rfl, rfl, rfl, rfl, rfl, fun _ => rfl,
    fun _ => ⟨rfl, rfl, rfl, rfl⟩⟩

/-- Settles O33: no increment list reads the fourth sample, and a beat in DRAIN reads none. -/
theorem alphaIsIgnored : Obligations.AlphaIsIgnored :=
  fun _ _ _ _ => ⟨rfl, rfl, rfl, rfl, rfl, rfl⟩

/-! ### The next event with no schedule (R60) -/

theorem State.enabled_bus {s : State} (hq : s.hostReqs ≠ []) (hb : s.source = []) (hs : s.seq ≠ .clear) :
    s.enabled = [.bus] := by
  simp [State.enabled, hq, hb, hs]

theorem State.enabled_beat {s : State} (hq : s.hostReqs = []) (hb : s.source ≠ [])
    (hs : s.seq = .run ∨ s.seq = .drain) : s.enabled = [.beat] := by
  have hclear : s.seq ≠ .clear := by obtain h | h := hs <;> simp [h]
  simp [State.enabled, hq, hb, s.mayAccept_iff.2 hs, hclear]

/-- In CLEAR no beat is accepted (R44), so the end of CLEAR is alone whatever the source offers. -/
theorem State.enabled_clear {s : State} (hq : s.hostReqs = []) (hs : s.seq = .clear) : s.enabled = [.clear] := by
  have hacc : s.mayAccept = false := by simp [Bool.eq_false_iff, s.mayAccept_iff, hs]
  simp [State.enabled, hq, hacc, hs]

theorem State.enabled_none {s : State} (hq : s.hostReqs = []) (hb : s.source = []) (hs : s.seq ≠ .clear) :
    s.enabled = [] := by
  simp [State.enabled, hq, hb, hs]

/-- Where one event is enabled, no choice is asked. -/
theorem State.fetchNext_single {s : State} {t : Turn} (ht : s.schedule = []) (he : s.enabled = [t]) :
    s.fetchNext = s.fetchTurn t := by
  simp only [State.fetchNext, ht, he]

theorem State.fetchNext_none {s : State} (ht : s.schedule = []) (he : s.enabled = []) : s.fetchNext = .quiet s := by
  simp only [State.fetchNext, ht, he]

theorem State.fetch_single {s : State} {t : Turn} (ht : s.schedule = []) (he : s.enabled = [t]) :
    s.fetch = State.fetchTurn { s with rsp := none } t :=
  State.fetchNext_single (s := { s with rsp := none }) ht he

theorem State.fetch_none {s : State} (ht : s.schedule = []) (he : s.enabled = []) :
    s.fetch = .quiet { s with rsp := none } :=
  State.fetchNext_none (s := { s with rsp := none }) ht he

/-- A fetch that runs no operation is the whole step. -/
theorem step_of_fetch_quiet {s s' : State} (h : s.fetch = .quiet s') : step s = .next s' := by
  simp [step, h]

theorem step_of_only_bus {s : State} {q : BusReq} {qs : List BusReq} (ht : s.schedule = [])
    (hq : s.hostReqs = q :: qs) (hb : s.source = []) (hs : s.seq ≠ .clear) :
    step s = exec (decodeReq s.caps.toNat q) { s with rsp := none, hostReqs := qs } := by
  apply step_of_fetch_run
  calc s.fetch = State.fetchBus { s with rsp := none } :=
        State.fetch_single ht (State.enabled_bus (by simp [hq]) hb hs)
    _ = .run (decodeReq s.caps.toNat q) { s with rsp := none, hostReqs := qs } := State.fetchBus_of_cons hq

theorem step_of_only_beat {s : State} {b : Beat} {bs : List Beat} {i : Instr} (ht : s.schedule = [])
    (hq : s.hostReqs = []) (hb : s.source = b :: bs) (hi : decodeBeat s.seq s.actScope b = .ok i) :
    step s = exec i { s with rsp := none, source := bs } := by
  have hs : s.seq = .run ∨ s.seq = .drain := (decodeBeat_eq_ok hi).imp And.left And.left
  apply step_of_fetch_run
  calc s.fetch = State.fetchBeat { s with rsp := none } :=
        State.fetch_single ht (State.enabled_beat hq (by simp [hb]) hs)
    _ = .run i { s with rsp := none, source := bs } := State.fetchBeat_of_accepted hb hi

theorem step_of_only_clear {s : State} (ht : s.schedule = []) (hq : s.hostReqs = []) (hs : s.seq = .clear) :
    step s = .next { s with rsp := none, seq := .run } := by
  apply step_of_fetch_quiet
  calc s.fetch = .quiet (State.clearDone { s with rsp := none }) :=
        State.fetch_single ht (State.enabled_clear hq hs)
    _ = .quiet { s with rsp := none, seq := .run } := congrArg _ (if_pos hs)

/-- Settles O39: each clause computes what is enabled, and a lone event is fetched without a choice. -/
theorem theOnlyEnabledEventHappens : Obligations.TheOnlyEnabledEventHappens :=
  ⟨fun _ _ _ ht hq hb hs => step_of_only_bus ht hq hb hs,
    fun _ _ _ _ ht hq hb hi => step_of_only_beat ht hq hb hi,
    fun _ ht hq hs => step_of_only_clear ht hq hs,
    fun _ ht hq hb hs => step_of_fetch_quiet (State.fetch_none ht (State.enabled_none hq hb hs))⟩

end Sys2Proof.Machine
end

section
/-! The encoding of `30_encoding.md`: what the decoder reads of an encoded word, and the address decode of R67 by the
address as a number. -/

namespace Sys2Proof.Machine

/-! ### The fields of an encoded word -/

theorem getLsbD_cmdWord (st ab e : Bool) (c : BitVec 4) :
    (cmdWord st ab e c).getLsbD 0 = st ∧ (cmdWord st ab e c).getLsbD 1 = ab ∧
      (cmdWord st ab e c).getLsbD 2 = e := by
  unfold cmdWord
  simp only [BitVec.getLsbD_append]
  simp

theorem cmdScope_cmdWord (st ab e : Bool) (c : BitVec 4) : cmdScope (cmdWord st ab e c) = c := by
  unfold cmdScope cmdWord
  rw [BitVec.extractLsb'_append_eq_of_le (by decide), BitVec.extractLsb'_append_eq_of_le (by decide),
    BitVec.extractLsb'_append_eq_of_le (by decide), BitVec.extractLsb'_append_eq_of_le (by decide)]
  exact BitVec.extractLsb'_append_eq_right

theorem getLsbD_statusWriteWord (d e g : Bool) :
    (statusWriteWord d e g).getLsbD 8 = d ∧ (statusWriteWord d e g).getLsbD 9 = e ∧
      (statusWriteWord d e g).getLsbD 10 = g := by
  unfold statusWriteWord
  simp only [BitVec.getLsbD_append]
  simp

/-- The samples come back from `s_data` (R52). -/
theorem pixelOfData_pixelData (p : Pixel) : pixelOfData (pixelData p) = p := by
  have hr : (pixelData p).extractLsb' 0 8 = p.r := BitVec.extractLsb'_append_eq_right
  have hg : (pixelData p).extractLsb' 8 8 = p.g :=
    (BitVec.extractLsb'_append_eq_of_le (by decide)).trans BitVec.extractLsb'_append_eq_right
  have hb : (pixelData p).extractLsb' 16 8 = p.b :=
    (BitVec.extractLsb'_append_eq_of_le (by decide)).trans
      ((BitVec.extractLsb'_append_eq_of_le (by decide)).trans BitVec.extractLsb'_append_eq_right)
  have ha : (pixelData p).extractLsb' 24 8 = p.a :=
    (BitVec.extractLsb'_append_eq_of_le (by decide)).trans
      ((BitVec.extractLsb'_append_eq_of_le (by decide)).trans BitVec.extractLsb'_append_eq_left)
  simp only [pixelOfData, hr, hg, hb, ha]

/-- The bits of a CTRL write that some rule reads, as a CMD word (R68). -/
theorem and_cmdMask (wd : Word) :
    wd &&& 0xF7 = cmdWord (wd.getLsbD 0) (wd.getLsbD 1) (wd.getLsbD 2) (cmdScope wd) := by
  apply BitVec.eq_of_getLsbD_eq
  intro i hi
  unfold cmdWord cmdScope
  simp only [BitVec.getLsbD_and, BitVec.getLsbD_append, BitVec.getLsbD_extractLsb']
  interval_cases i <;> simp

/-! ### Addresses as numbers -/

theorem regAddr_toNat (off : BitVec 6) : (regAddr off).toNat = 4 * off.toNat := by
  unfold regAddr
  rw [BitVec.toNat_append, BitVec.toNat_append]
  simp [Nat.shiftLeft_eq, Nat.mul_comm]

theorem regOffset_toNat (a : Word) : (regOffset a).toNat = a.toNat / 4 % 64 := by
  unfold regOffset
  rw [BitVec.extractLsb'_toNat, Nat.shiftRight_eq_div_pow]

theorem regOffset_regAddr (off : BitVec 6) : regOffset (regAddr off) = off := by
  apply BitVec.eq_of_toNat_eq
  have := off.isLt
  rw [regOffset_toNat, regAddr_toNat]
  omega

/-- The register that an aligned address of the register block names (R67 case 2). -/
theorem regOffset_eq_iff {a : Word} (hal : a.toNat % 4 = 0) (hreg : a.toNat < 0x100) (off : BitVec 6) :
    regOffset a = off ↔ a.toNat = 4 * off.toNat := by
  rw [← BitVec.toNat_inj, regOffset_toNat]
  omega

theorem resultIndex_toNat (a : Word) : (resultIndex a).toNat = (a.toNat - 0x01000000) / 4 := by
  have := a.isLt
  simp only [resultIndex, Config.resultBase, BitVec.toNat_ofNat]
  omega

/-- RESULT_BASE + 4i is an address: the window ends at 2^32 at the latest (R9, conflict C12). -/
theorem windowAddr_toNat {wMax : Nat} (hw : wMax ≤ Config.wMaxLimit) {i : BitVec 30}
    (hi : i.toNat < Config.resWords wMax) : (windowAddr i).toNat = 0x01000000 + 4 * i.toNat := by
  simp only [Config.wMaxLimit, Config.resWords] at hw hi
  simp only [windowAddr, Config.resultBase, BitVec.toNat_ofNat]
  omega

/-! ### The address decode, one equation per case of R67 -/

theorem decodeReq_of_misaligned {q : BusReq} (hal : q.addr.toNat % 4 ≠ 0) (wMax : Nat) :
    decodeReq wMax q = .buserrMisaligned q.write q.addr := by
  obtain ⟨-, hd⟩ | ⟨_, -⟩ | ⟨_, -⟩ | ⟨_, -⟩ := decodeReq_cases wMax q
  · exact hd
  all_goals omega

theorem decodeReq_of_register {q : BusReq} (hal : q.addr.toNat % 4 = 0) (hreg : q.addr.toNat < 0x100) (wMax : Nat) :
    decodeReq wMax q =
      if q.write then decodeRegWrite (regOffset q.addr) q.wdata else .rdReg (regOffset q.addr) := by
  obtain ⟨_, -⟩ | ⟨-, hd⟩ | ⟨_, -⟩ | ⟨_, -⟩ := decodeReq_cases wMax q
  case inr.inl => exact hd
  all_goals omega

theorem decodeReq_of_window {wMax : Nat} {q : BusReq} (hal : q.addr.toNat % 4 = 0)
    (hwin : 0x01000000 ≤ q.addr.toNat ∧ q.addr.toNat < 0x01000000 + 4 * max 65536 (768 * wMax)) :
    decodeReq wMax q = if q.write then .wrResult (resultIndex q.addr) else .rdResult (resultIndex q.addr) := by
  obtain ⟨_, -⟩ | ⟨_, -⟩ | ⟨-, hd⟩ | ⟨_, -⟩ := decodeReq_cases wMax q
  case inr.inr.inl => exact hd
  all_goals omega

theorem decodeReq_of_unmapped {wMax : Nat} {q : BusReq} (hal : q.addr.toNat % 4 = 0) (hreg : 0x100 ≤ q.addr.toNat)
    (hwin : ¬(0x01000000 ≤ q.addr.toNat ∧ q.addr.toNat < 0x01000000 + 4 * max 65536 (768 * wMax))) :
    decodeReq wMax q = .buserrUnmapped q.write q.addr := by
  obtain ⟨_, -⟩ | ⟨_, -⟩ | ⟨_, -⟩ | ⟨-, hd⟩ := decodeReq_cases wMax q
  case inr.inr.inr => exact hd
  all_goals omega

/-- The register dispatch of R106. -/
theorem decodeRegWrite_eq (off : BitVec 6) (wd : Word) :
    decodeRegWrite off wd =
      if off = 2 then decodeCmd wd
      else if off = 3 then .wrStatus (wd.getLsbD 8) (wd.getLsbD 9) (wd.getLsbD 10)
      else if off = 4 then .wrWidth wd
      else if off = 5 then .wrHeight wd
      else .wrIgnored off := by
  simp only [← BitVec.toNat_inj]
  unfold decodeRegWrite
  split <;> simp_all

/-- Every offset but those of CTRL, STATUS, WIDTH and HEIGHT is read-only or reserved (R114). -/
theorem decodeRegWrite_of_readOnly {off : BitVec 6} (h : off.toNat < 2 ∨ 6 ≤ off.toNat) (wd : Word) :
    decodeRegWrite off wd = .wrIgnored off := by
  unfold decodeRegWrite
  split
  case h_5 => rfl
  all_goals omega

/-- WR_IGNORED has an offset of a read-only or reserved register (R76, R114). -/
theorem wellFormed_wrIgnored_iff (wMax : Nat) (off : BitVec 6) :
    (Instr.wrIgnored off).wellFormed wMax = true ↔ off.toNat < 2 ∨ 6 ≤ off.toNat := by
  simp only [Instr.wellFormed, Bool.or_eq_true, beq_iff_eq, decide_eq_true_eq, ← BitVec.toNat_inj]
  change (off.toNat = 0 ∨ off.toNat = 1) ∨ 6 ≤ off.toNat ↔ _
  omega

/-- BUSERR_UNMAPPED has an aligned address outside the register block and the window (R55, R76). -/
theorem wellFormed_buserrUnmapped_iff (wMax : Nat) (write : Bool) (a : Word) :
    (Instr.buserrUnmapped write a).wellFormed wMax = true ↔
      (a.toNat % 4 = 0 ∧ 0x100 ≤ a.toNat) ∧
        ¬(0x01000000 ≤ a.toNat ∧ a.toNat < 0x01000000 + 4 * max 65536 (768 * wMax)) := by
  simp only [Instr.wellFormed, Bool.and_eq_true, decide_eq_true_eq, Bool.not_eq_true', ← Bool.not_eq_true,
    inResultWindow_iff]

/-- A request at the address of a register reaches that register. -/
theorem decodeReq_regAddr (wMax : Nat) (write : Bool) (off : BitVec 6) (wd : Word) :
    decodeReq wMax { write := write, addr := regAddr off, wdata := wd } =
      if write then decodeRegWrite off wd else .rdReg off := by
  have hoff := off.isLt
  have haddr := regAddr_toNat off
  rw [decodeReq_of_register (by simp only [haddr]; omega) (by simp only [haddr]; omega), regOffset_regAddr]

theorem decodeReq_ctrlWrite (wMax : Nat) (wd : Word) :
    decodeReq wMax { write := true, addr := 0x008, wdata := wd } = decodeCmd wd :=
  decodeReq_regAddr wMax true 2 wd

theorem decodeReq_statusWrite (wMax : Nat) (wd : Word) :
    decodeReq wMax { write := true, addr := 0x00C, wdata := wd } =
      .wrStatus (wd.getLsbD 8) (wd.getLsbD 9) (wd.getLsbD 10) :=
  decodeReq_regAddr wMax true 3 wd

/-- A request at the address of a result word reaches that word. -/
theorem decodeReq_windowAddr {wMax : Nat} (hw : wMax ≤ Config.wMaxLimit) {i : BitVec 30}
    (hi : i.toNat < Config.resWords wMax) (write : Bool) (wd : Word) :
    decodeReq wMax { write := write, addr := windowAddr i, wdata := wd } =
      if write then .wrResult i else .rdResult i := by
  have haddr := windowAddr_toNat hw hi
  have hidx : resultIndex (windowAddr i) = i := by
    apply BitVec.eq_of_toNat_eq
    rw [resultIndex_toNat, haddr]
    omega
  simp only [Config.resWords] at hi
  rw [decodeReq_of_window (by simp only [haddr]; omega) (by simp only [haddr]; omega), hidx]

/-! ### CMD words -/

/-- The priority of R69 on an encoded CMD word. -/
theorem decodeCmd_cmdWord (st ab e : Bool) (c : BitVec 4) :
    decodeCmd (cmdWord st ab e c) =
      if ab then .abort st e c else if st then decodeStart e c else .cfg e c := by
  simp only [decodeCmd, getLsbD_cmdWord, cmdScope_cmdWord]

/-- Bits 3 and 31:8 are ignored (R68). -/
theorem decodeCmd_and_cmdMask (wd : Word) : decodeCmd (wd &&& 0xF7) = decodeCmd wd := by
  rw [and_cmdMask, decodeCmd_cmdWord]
  rfl

theorem decodeStart_scope6_7 {c : BitVec 4} (h : (c == 6 || c == 7) = true) (e : Bool) :
    decodeStart e c = .startInvalidScope6_7 e c := by
  rw [Bool.or_eq_true, beq_iff_eq, beq_iff_eq] at h
  obtain rfl | rfl := h <;> rfl

theorem decodeStart_scope8_15 {c : BitVec 4} (h : 8 ≤ c.toNat) (e : Bool) :
    decodeStart e c = .startInvalidScope8_15 e c := by
  unfold decodeStart
  split
  case h_9 => rfl
  all_goals omega

end Sys2Proof.Machine
end

section
/-! The statements about the encoding (`30_encoding.md`): the decoder inverts the encoder (R65 to R76), the rows of a
CTRL write (R76), the ignored bits (R66 to R70), the address decode (R67), and the flat number of an event (log
entries 5 and 12). -/

namespace Sys2Proof.Machine

/-! ### Decoding what the encoder wrote -/

theorem decode_regWrite (wMax : Nat) (off : BitVec 6) (wd : Word) :
    decode wMax (regWrite off wd) = .ok (decodeRegWrite off wd) :=
  congrArg Decoded.ok (decodeReq_regAddr wMax true off wd)

theorem decode_abortWord (wMax : Nat) (st e : Bool) (c : BitVec 4) :
    decode wMax (regWrite 2 (cmdWord st true e c)) = .ok (.abort st e c) :=
  (decode_regWrite ..).trans (congrArg Decoded.ok (decodeCmd_cmdWord st true e c))

theorem decode_startWord (wMax : Nat) (e : Bool) (c : BitVec 4) :
    decode wMax (regWrite 2 (cmdWord true false e c)) = .ok (decodeStart e c) :=
  (decode_regWrite ..).trans (congrArg Decoded.ok (decodeCmd_cmdWord true false e c))

theorem decode_cfgWord (wMax : Nat) (e : Bool) (c : BitVec 4) :
    decode wMax (regWrite 2 (cmdWord false false e c)) = .ok (.cfg e c) :=
  (decode_regWrite ..).trans (congrArg Decoded.ok (decodeCmd_cmdWord false false e c))

theorem decode_statusWord (wMax : Nat) (d e g : Bool) :
    decode wMax (regWrite 3 (statusWriteWord d e g)) = .ok (.wrStatus d e g) := by
  obtain ⟨hd, he, hg⟩ := getLsbD_statusWriteWord d e g
  calc decode wMax (regWrite 3 (statusWriteWord d e g))
    _ = .ok (.wrStatus _ _ _) := decode_regWrite wMax 3 _
    _ = .ok (.wrStatus d e g) := by rw [hd, he, hg]

theorem decode_runBeat (wMax : Nat) (c : BitVec 4) (p : Pixel) (last : Bool) :
    decode wMax (.beat .run c { data := pixelData p, last := last }) = decodeRunBeat c p last :=
  congrArg (decodeRunBeat c · last) (pixelOfData_pixelData p)

theorem decode_drainBeat (wMax : Nat) (c : BitVec 4) (p : Pixel) (last : Bool) :
    decode wMax (.beat .drain c { data := pixelData p, last := last }) = .ok (.pixDrain p last) :=
  congrArg (fun x => Decoded.ok (.pixDrain x last)) (pixelOfData_pixelData p)

/-- Decoding inverts encoding on the operations of R76, whose rows are those of `Instr.wellFormed`. -/
theorem decode_encode {wMax : Nat} (hw : wMax ≤ Config.wMaxLimit) {i : Instr} (hi : i.wellFormed wMax = true) :
    decode wMax (encode i) = .ok i := by
  cases i with
  | cfg e c => exact decode_cfgWord wMax e c
  | startHistogram e | startWaveformLuma e | startWaveformParade e | startVectorscopeA e | startVectorscopeB e
  | startInvalidScope0 e => exact decode_startWord wMax e _
  | startInvalidScope6_7 e c =>
    exact (decode_startWord wMax e c).trans (congrArg Decoded.ok (decodeStart_scope6_7 hi e))
  | startInvalidScope8_15 e c =>
    exact (decode_startWord wMax e c).trans (congrArg Decoded.ok (decodeStart_scope8_15 (of_decide_eq_true hi) e))
  | abort st e c => exact decode_abortWord wMax st e c
  | wrStatus d e g => exact decode_statusWord wMax d e g
  | wrWidth wd | wrHeight wd => exact decode_regWrite wMax _ wd
  | wrIgnored off =>
    have hoff := (wellFormed_wrIgnored_iff wMax off).1 hi
    exact (decode_regWrite wMax off 0).trans (congrArg Decoded.ok (decodeRegWrite_of_readOnly hoff 0))
  | rdReg off => exact congrArg Decoded.ok (decodeReq_regAddr wMax false off 0)
  | rdResult j => exact congrArg Decoded.ok (decodeReq_windowAddr hw (of_decide_eq_true hi) false 0)
  | wrResult j => exact congrArg Decoded.ok (decodeReq_windowAddr hw (of_decide_eq_true hi) true 0)
  | buserrMisaligned write addr => 
    have hal : addr.toNat % 4 ≠ 0 := of_decide_eq_true hi
    exact congrArg Decoded.ok (decodeReq_of_misaligned hal wMax)
  | buserrUnmapped write addr =>
    obtain ⟨⟨hal, hreg⟩, hwin⟩ := (wellFormed_buserrUnmapped_iff wMax write addr).1 hi
    exact congrArg Decoded.ok (decodeReq_of_unmapped hal hreg hwin)
  | pixHistogram p last | pixWaveformLuma p last | pixWaveformParade p last | pixVectorscopeA p last
  | pixVectorscopeB p last =>
    exact decode_runBeat wMax _ p last
  | pixDrain p last => exact decode_drainBeat wMax _ p last

/-- Settles O1, by the case of each operation (`decode_encode`). -/
theorem decodeOfEncode : Obligations.DecodeOfEncode :=
  fun _ _ _ hw hi => decode_encode hw hi

/-! ### The flat number of an event -/

theorem seqOfCode_code (seq : Seq) : seqOfCode seq.code.toNat = some seq := by
  cases seq <;> rfl

theorem decide_toNat_eq_one (b : Bool) : decide (b.toNat = 1) = b := by
  cases b <;> rfl

theorem ofNat_eq_of_mod_eq {k n : Nat} {x : BitVec k} (h : n % 2 ^ k = x.toNat) : BitVec.ofNat k n = x :=
  BitVec.eq_of_toNat_eq (by rw [BitVec.toNat_ofNat, h])

/-- A request comes back from its number, field by field. -/
theorem eventOfTableWord_regop {q : BusReq} {w : Nat}
    (hw : w = q.write.toNat + 2 * q.addr.toNat + 2 ^ 33 * q.wdata.toNat) :
    eventOfTableWord 72 w = some (.regop q) := by
  have hb := q.write.toNat_le
  have ha := q.addr.isLt
  have hd := q.wdata.isLt
  have hwrite : w % 2 = q.write.toNat := by omega
  have haddr : BitVec.ofNat 32 (w / 2) = q.addr := ofNat_eq_of_mod_eq (by omega)
  have hwdata : BitVec.ofNat 32 (w / 2 ^ 33) = q.wdata := ofNat_eq_of_mod_eq (by omega)
  unfold eventOfTableWord
  rw [if_neg (by decide)]
  simp only [hwrite, haddr, hwdata, decide_toNat_eq_one]

/-- A beat comes back from its number, with the STATE and ACT_SCOPE that select its operation. -/
theorem eventOfTableWord_beat {seq : Seq} {actScope : BitVec 4} {b : Beat} {w : Nat}
    (hw : w = b.data.toNat + 2 ^ 32 * b.last.toNat + 2 ^ 33 * seq.code.toNat + 2 ^ 36 * actScope.toNat) :
    eventOfTableWord 40 w = some (.beat seq actScope b) := by
  have hd := b.data.isLt
  have hl := b.last.toNat_le
  have hs := seq.code.isLt
  have hc := actScope.isLt
  have hdata : BitVec.ofNat 32 w = b.data := ofNat_eq_of_mod_eq (by omega)
  have hlast : w / 2 ^ 32 % 2 = b.last.toNat := by omega
  have hseq : w / 2 ^ 33 % 8 = seq.code.toNat := by omega
  have hscope : BitVec.ofNat 4 (w / 2 ^ 36) = actScope := ofNat_eq_of_mod_eq (by omega)
  unfold eventOfTableWord
  rw [if_pos (by decide), hseq, seqOfCode_code]
  simp only [hscope, hdata, hlast, decide_toNat_eq_one]

/-- An event comes back from its number. -/
theorem eventOfTableWord_tableWord (e : Event) : eventOfTableWord (tableBits e) (tableWord e) = some e := by
  cases e with
  | regop q => exact eventOfTableWord_regop rfl
  | beat seq actScope b => exact eventOfTableWord_beat rfl

theorem decodeTableWord_tableWord {e : Event} {i : Instr} (h : decode Config.wMaxAtReset.toNat e = .ok i) :
    decodeTableWord (tableBits e) (tableWord e) = some i := by
  simp only [decodeTableWord, eventOfTableWord_tableWord, h]

/-- Settles O2: the event comes back from its number (`eventOfTableWord_tableWord`), and the operation from the
event. -/
theorem decodeTableWordOfEncode : Obligations.DecodeTableWordOfEncode :=
  fun _ hi => decodeTableWord_tableWord (decode_encode (by decide) hi)

/-! ### The rows of a CTRL write -/

/-- A CTRL write. -/
def ctrlWrite (wd : Word) : Event := .regop { write := true, addr := 0x008, wdata := wd }

/-- The ten CTRL rows of the opcode table (R76). -/
def ctrlRows : List RowPattern :=
  [ctrlRow 0x00 0x03, ctrlRow 0x11 0xF3, ctrlRow 0x21 0xF3, ctrlRow 0x31 0xF3, ctrlRow 0x41 0xF3,
    ctrlRow 0x51 0xF3, ctrlRow 0x01 0xF3, ctrlRow 0x61 0xE3, ctrlRow 0x81 0x83, ctrlRow 0x02 0x02]

theorem ctrlRows_of_abort : ∀ (st e : Bool) (c : BitVec 4),
    ctrlRows.filter (·.fits (ctrlWrite (cmdWord st true e c))) = [ctrlRow 0x02 0x02] := by decide

theorem ctrlRows_of_start : ∀ (e : Bool) (c : BitVec 4),
    ctrlRows.filter (·.fits (ctrlWrite (cmdWord true false e c))) = [(decodeStart e c).row] := by decide

theorem ctrlRows_of_cfg : ∀ (e : Bool) (c : BitVec 4),
    ctrlRows.filter (·.fits (ctrlWrite (cmdWord false false e c))) = [ctrlRow 0x00 0x03] := by decide

/-- An encoded CMD word fits the row of its operation and no other, in the order of R69. -/
theorem ctrlRows_cmdWord (st ab e : Bool) (c : BitVec 4) :
    ctrlRows.filter (·.fits (ctrlWrite (cmdWord st ab e c))) = [(decodeCmd (cmdWord st ab e c)).row] := by
  rw [decodeCmd_cmdWord]
  cases ab with
  | true => exact ctrlRows_of_abort st e c
  | false =>
    cases st with
    | true => exact ctrlRows_of_start e c
    | false => exact ctrlRows_of_cfg e c

/-- No row looks at a bit that R68 says is ignored. -/
theorem ctrlRow_fits_and_cmdMask {wdata mask : Word} (hm : 0xF7 &&& mask = mask) (wd : Word) :
    (ctrlRow wdata mask).fits (ctrlWrite wd) = (ctrlRow wdata mask).fits (ctrlWrite (wd &&& 0xF7)) := by
  simp only [ctrlRow, ctrlWrite, RowPattern.fits, BitVec.and_assoc, hm]

theorem ctrlRows_fit_and_cmdMask (wd : Word) :
    ∀ r ∈ ctrlRows, r.fits (ctrlWrite wd) = r.fits (ctrlWrite (wd &&& 0xF7)) := by
  have h {wdata mask : Word} (hm : 0xF7 &&& mask = mask) := ctrlRow_fits_and_cmdMask (wdata := wdata) hm wd
  simp only [ctrlRows, List.forall_mem_cons]
  exact ⟨h rfl, h rfl, h rfl, h rfl, h rfl, h rfl, h rfl, h rfl, h rfl, h rfl, nofun⟩

/-- Settles O3: the rows and the decoder read of the word its CMD word alone (`and_cmdMask`), and a CMD word fits the
row of its operation (`ctrlRows_cmdWord`). -/
theorem ctrlWordMatchesExactlyItsRow : Obligations.CtrlWordMatchesExactlyItsRow := by
  intro wMax wd
  rw [decodeReq_ctrlWrite]
  calc ctrlRows.filter (·.fits (ctrlWrite wd))
    _ = ctrlRows.filter (·.fits (ctrlWrite (wd &&& 0xF7))) := List.filter_congr (ctrlRows_fit_and_cmdMask wd)
    _ = [(decodeCmd (wd &&& 0xF7)).row] := by rw [and_cmdMask]; exact ctrlRows_cmdWord _ _ _ _
    _ = [(decodeCmd wd).row] := by rw [decodeCmd_and_cmdMask]

/-! ### Ignored bits -/

/-- STATUS write bits other than 10:8 are ignored (R70). -/
theorem decodeReq_statusWrite_and (wMax : Nat) (wd : Word) :
    decodeReq wMax { write := true, addr := 0x00C, wdata := wd &&& 0x700 } =
      decodeReq wMax { write := true, addr := 0x00C, wdata := wd } := by
  rw [decodeReq_statusWrite, decodeReq_statusWrite]
  simp

/-- The write data counts only in a write of CTRL, STATUS, WIDTH or HEIGHT (R66, R77). -/
theorem decodeReq_wdata_irrelevant (wMax : Nat) {q : BusReq} (wd : Word)
    (h : q.write = false ∨ q.addr.toNat % 4 ≠ 0 ∨ 256 ≤ q.addr.toNat ∨ q.addr.toNat < 8 ∨ 24 ≤ q.addr.toNat) :
    decodeReq wMax { q with wdata := wd } = decodeReq wMax q := by
  obtain ⟨hal, hd⟩ | ⟨⟨hal, hreg⟩, hd⟩ | ⟨⟨hal, hwin⟩, hd⟩ | ⟨⟨hal, hmap⟩, hd⟩ := decodeReq_cases wMax q <;> rw [hd]
  · exact decodeReq_of_misaligned (q := { q with wdata := wd }) hal wMax
  · rw [decodeReq_of_register (q := { q with wdata := wd }) hal hreg]
    cases hw : q.write with
    | false => rfl
    | true =>
      have hoff : (regOffset q.addr).toNat < 2 ∨ 6 ≤ (regOffset q.addr).toNat := by
        rw [regOffset_toNat]
        simp only [hw, Bool.true_eq_false, false_or] at h
        omega
      rw [decodeRegWrite_of_readOnly hoff, decodeRegWrite_of_readOnly hoff]
  · exact decodeReq_of_window (q := { q with wdata := wd }) hal hwin
  · exact decodeReq_of_unmapped (q := { q with wdata := wd }) hal (by dsimp only; omega) (by dsimp only; omega)

/-- Settles O4: each decode goes through the bits that are read. -/
theorem ignoredBitsDoNotDecode : Obligations.IgnoredBitsDoNotDecode := by
  refine ⟨fun wMax wd wd' h => ?_, fun wMax wd wd' h => ?_, fun wMax q wd h => decodeReq_wdata_irrelevant wMax wd h⟩
  · rw [decodeReq_ctrlWrite, decodeReq_ctrlWrite, ← decodeCmd_and_cmdMask wd, h, decodeCmd_and_cmdMask]
  · rw [← decodeReq_statusWrite_and wMax wd, h, decodeReq_statusWrite_and]

/-! ### The address decode -/

/-- A register write by its byte address (R106). -/
theorem decodeReq_of_registerWrite {q : BusReq} (hal : q.addr.toNat % 4 = 0) (hreg : q.addr.toNat < 0x100)
    (hwr : q.write = true) (wMax : Nat) :
    decodeReq wMax q =
      if q.addr.toNat = 0x008 then decodeCmd q.wdata
      else if q.addr.toNat = 0x00C then .wrStatus (q.wdata.getLsbD 8) (q.wdata.getLsbD 9) (q.wdata.getLsbD 10)
      else if q.addr.toNat = 0x010 then .wrWidth q.wdata
      else if q.addr.toNat = 0x014 then .wrHeight q.wdata
      else .wrIgnored (regOffset q.addr) := by
  rw [decodeReq_of_register hal hreg, if_pos hwr, decodeRegWrite_eq]
  simp only [regOffset_eq_iff hal hreg]
  rfl

theorem regOffset_eq_ofNat (a : Word) : regOffset a = BitVec.ofNat 6 (a.toNat / 4) :=
  BitVec.eq_of_toNat_eq ((regOffset_toNat a).trans (BitVec.toNat_ofNat (a.toNat / 4) 6).symm)

/-- Settles O5, by the equations of the four cases. -/
theorem addressDecodeCases : Obligations.AddressDecodeCases := by
  intro wMax q _
  refine ⟨fun hal => decodeReq_of_misaligned hal wMax, fun hal hreg hrd => ?_, fun hal hreg hwr => ?_,
    fun hal hlo hhi => ⟨resultIndex q.addr, ?_, decodeReq_of_window hal ⟨hlo, hhi⟩⟩,
    fun hal hreg hmap => decodeReq_of_unmapped hal hreg (by omega)⟩
  · rw [decodeReq_of_register hal hreg, hrd, ← regOffset_eq_ofNat]
    rfl
  · rw [decodeReq_of_registerWrite hal hreg hwr, regOffset_eq_ofNat]
  · rw [resultIndex_toNat]
    omega

/-! ### Every request is an operation -/

theorem decodeStart_wellFormed (wMax : Nat) (e : Bool) (c : BitVec 4) :
    (decodeStart e c).wellFormed wMax = true := by
  unfold decodeStart
  split
  case h_7 h => simp [Instr.wellFormed, ← BitVec.toNat_inj, h]
  case h_8 h => simp [Instr.wellFormed, ← BitVec.toNat_inj, h]
  case h_9 =>
    have h8 : 8 ≤ c.toNat := by
      simp only [imp_false] at *
      omega
    exact decide_eq_true h8
  all_goals rfl

theorem decodeCmd_wellFormed (wMax : Nat) (wd : Word) : (decodeCmd wd).wellFormed wMax = true := by
  unfold decodeCmd
  split
  · rfl
  split
  · exact decodeStart_wellFormed wMax _ _
  · rfl

theorem decodeRegWrite_wellFormed (wMax : Nat) (off : BitVec 6) (wd : Word) :
    (decodeRegWrite off wd).wellFormed wMax = true := by
  unfold decodeRegWrite
  split
  case h_1 => exact decodeCmd_wellFormed wMax wd
  case h_5 =>
    have hoff : off.toNat < 2 ∨ 6 ≤ off.toNat := by
      simp only [imp_false] at *
      omega
    exact (wellFormed_wrIgnored_iff wMax off).2 hoff
  all_goals rfl

theorem resultIndex_lt {wMax : Nat} {a : Word} (hlo : 0x01000000 ≤ a.toNat)
    (hhi : a.toNat < 0x01000000 + 4 * max 65536 (768 * wMax)) : (resultIndex a).toNat < Config.resWords wMax := by
  rw [resultIndex_toNat]
  simp only [Config.resWords]
  omega

/-- Settles O6, by the four cases of the address decode. -/
theorem everyRequestDecodesWellFormed : Obligations.EveryRequestDecodesWellFormed := by
  intro wMax q _
  obtain ⟨hal, hd⟩ | ⟨-, hd⟩ | ⟨⟨-, hlo, hhi⟩, hd⟩ | ⟨⟨hal, hmap⟩, hd⟩ := decodeReq_cases wMax q <;> rw [hd]
  · exact decide_eq_true hal
  · cases q.write with
    | true => exact decodeRegWrite_wellFormed wMax _ _
    | false => rfl
  · cases q.write <;> exact decide_eq_true (resultIndex_lt hlo hhi)
  · exact (wellFormed_buserrUnmapped_iff wMax q.write q.addr).2 (by omega)

/-! ### A placed event -/

/-- A placed event that decodes is run by the next step, on the state that `State.runningPlaced` names. -/
theorem step_placeEvent {s : State} {e : Event} {i : Instr} (h : decode s.caps.toNat e = .ok i) :
    step (s.placeEvent e) = exec i (s.runningPlaced e) := by
  cases e with
  | regop q =>
    cases h
    exact step_of_scheduled_bus rfl rfl
  | beat seq actScope b => exact step_of_scheduled_beat rfl rfl h

theorem withFetchWord_tableWord (s : State) (e : Event) :
    s.withFetchWord (tableBits e) (tableWord e) = s.placeEvent e := by
  simp only [State.withFetchWord, eventOfTableWord_tableWord]

/-- Settles O46: the number gives the event back, the event its operation, and the schedule's head runs it. -/
theorem placedWordRunsNext : Obligations.PlacedWordRunsNext := by
  intro s i _ hw hi
  rw [withFetchWord_tableWord]
  exact step_placeEvent (decode_encode hw hi)

/-! ### Samples -/

/-- Settles O8, by running the decoder on each word. -/
theorem sampleWordsDecode : Obligations.SampleWordsDecode := by
  refine ⟨?_, ?_, ?_, ?_, ?_, ?_, ?_⟩ <;> decide

end Sys2Proof.Machine
end

section
/-! The layout of a result (`10_state.md` R39, `40_histogram.md` R83, `41_waveform.md` R92, `42_vectorscope.md` R101): it
is made of planes of one size, and every pixel has one counter in each plane. -/

namespace Sys2Proof.Machine

/-! ### Levels and chroma coordinates -/

theorem sample_range (v : Byte) : 0 ≤ sample v ∧ sample v ≤ 255 := by
  have hv := v.isLt
  unfold sample
  omega

theorem samples_range (p : Pixel) :
    (0 ≤ sample p.r ∧ sample p.r ≤ 255) ∧ (0 ≤ sample p.g ∧ sample p.g ≤ 255) ∧ 0 ≤ sample p.b ∧ sample p.b ≤ 255 :=
  ⟨sample_range p.r, sample_range p.g, sample_range p.b⟩

/-- The luma is a level (R85, R86). -/
theorem luma709_range (p : Pixel) : 0 ≤ luma709 p ∧ luma709 p ≤ 255 := by
  have h := samples_range p
  unfold luma709 lumaNum fdiv
  omega

/-- The column of policy A (R94). -/
theorem xA_range (p : Pixel) : 1 ≤ xA p ∧ xA p ≤ 255 := by
  have h := samples_range p
  unfold xA diffV lumaNum fdiv
  omega

/-- The row of policy A (R94). -/
theorem yA_range (p : Pixel) : 1 ≤ yA p ∧ yA p ≤ 255 := by
  have h := samples_range p
  unfold yA diffU lumaNum fdiv
  omega

theorem chromaU_range (p : Pixel) : -226 ≤ chromaU p ∧ chromaU p ≤ 226 := by
  have h := samples_range p
  unfold chromaU lumaNum601 fdiv
  omega

theorem chromaV_range (p : Pixel) : -179 ≤ chromaV p ∧ chromaV p ≤ 179 := by
  have h := samples_range p
  unfold chromaV lumaNum601 fdiv
  omega

/-- The column of policy B (R98). -/
theorem xB_range (p : Pixel) : 14 ≤ xB p ∧ xB p ≤ 241 := by
  have hu := chromaU_range p
  unfold xB fdiv
  omega

/-- The row of policy B (R98). -/
theorem yB_range (p : Pixel) : 38 ≤ yB p ∧ yB p ≤ 217 := by
  have hv := chromaV_range p
  unfold yB fdiv
  omega

/-! ### The increment lists, with nothing dropped -/

theorem levelCell_of_range (w x plane : Nat) {level : Int} (h : 0 ≤ level ∧ level ≤ 255) :
    levelCell w x plane level = [plane * 256 * w + (255 - level.toNat) * w + x] :=
  if_pos h

theorem gridCell_of_range {x y : Int} (hx : 0 ≤ x ∧ x ≤ 255) (hy : 0 ≤ y ∧ y ≤ 255) :
    gridCell x y = [y.toNat * 256 + x.toNat] :=
  if_pos ⟨hx.1, hx.2, hy⟩

@[simp] theorem sample_toNat (v : Byte) : (sample v).toNat = v.toNat := rfl

theorem lumaCells_eq (w x : Nat) (p : Pixel) : lumaCells w x p = [(255 - (luma709 p).toNat) * w + x] := by
  simp [lumaCells, levelCell_of_range w x 0 (luma709_range p)]

theorem paradeCells_eq (w x : Nat) (p : Pixel) :
    paradeCells w x p =
      [(255 - p.r.toNat) * w + x, 256 * w + (255 - p.g.toNat) * w + x, 512 * w + (255 - p.b.toNat) * w + x] := by
  simp [paradeCells, levelCell_of_range w x _ (sample_range _)]

theorem policyACells_eq (p : Pixel) : policyACells p = [(yA p).toNat * 256 + (xA p).toNat] :=
  gridCell_of_range (by have := xA_range p; omega) (by have := yA_range p; omega)

theorem policyBCells_eq (p : Pixel) : policyBCells p = [(yB p).toNat * 256 + (xB p).toNat] :=
  gridCell_of_range (by have := xB_range p; omega) (by have := yB_range p; omega)

/-! ### Planes -/

/-- The samples of a pixel in the order of the planes r, g, b (R81, R90). -/
def channel (p : Pixel) : Nat → Nat
  | 0 => p.r.toNat
  | 1 => p.g.toNat
  | _ => p.b.toNat

/-- How many planes the result has (R39). -/
def State.planeCount (s : State) : Nat :=
  match s.actScope.toNat with
  | 1 => 3
  | 2 => 1
  | 3 => 3
  | 4 => 1
  | 5 => 1
  | _ => 0

/-- How many counters a plane has (R39). -/
def State.planeSize (s : State) : Nat :=
  match s.actScope.toNat with
  | 1 => 256
  | 2 => 256 * s.actWidth.toNat
  | 3 => 256 * s.actWidth.toNat
  | 4 => 65536
  | 5 => 65536
  | _ => 0

/-- Which counter of plane `c` the pixel with cursor `k` is counted in (R81, R89, R90, R97, R100). -/
def State.planeOffset (s : State) (c k : Nat) (p : Pixel) : Nat :=
  match s.actScope.toNat with
  | 1 => channel p c
  | 2 => (255 - (luma709 p).toNat) * s.actWidth.toNat + k % s.actWidth.toNat
  | 3 => (255 - channel p c) * s.actWidth.toNat + k % s.actWidth.toNat
  | 4 => (yA p).toNat * 256 + (xA p).toNat
  | 5 => (yB p).toNat * 256 + (xB p).toNat
  | _ => 0

/-- The word of counter `v` of plane `c`. -/
def State.planeWord (s : State) (c v : Nat) : Nat := c * s.planeSize + v

/-- The counters of the next beat's pixel, one in each plane. -/
def State.nextCells (s : State) (p : Pixel) : List Nat :=
  (List.range s.planeCount).map fun c => s.planeWord c (s.planeOffset c s.k.toNat p)

theorem State.planes_histogram {s : State} (h : s.actScope = 1) :
    s.planeCount = 3 ∧ s.planeSize = 256 ∧ ∀ c k p, s.planeOffset c k p = channel p c := by
  simp [State.planeCount, State.planeSize, State.planeOffset, h]

theorem State.planes_luma {s : State} (h : s.actScope = 2) :
    s.planeCount = 1 ∧ s.planeSize = 256 * s.actWidth.toNat ∧
      ∀ c k p, s.planeOffset c k p = (255 - (luma709 p).toNat) * s.actWidth.toNat + k % s.actWidth.toNat := by
  simp [State.planeCount, State.planeSize, State.planeOffset, h]

theorem State.planes_parade {s : State} (h : s.actScope = 3) :
    s.planeCount = 3 ∧ s.planeSize = 256 * s.actWidth.toNat ∧
      ∀ c k p, s.planeOffset c k p = (255 - channel p c) * s.actWidth.toNat + k % s.actWidth.toNat := by
  simp [State.planeCount, State.planeSize, State.planeOffset, h]

theorem State.planes_policyA {s : State} (h : s.actScope = 4) :
    s.planeCount = 1 ∧ s.planeSize = 256 * 256 ∧
      ∀ c k p, s.planeOffset c k p = (yA p).toNat * 256 + (xA p).toNat := by
  simp [State.planeCount, State.planeSize, State.planeOffset, h]

theorem State.planes_policyB {s : State} (h : s.actScope = 5) :
    s.planeCount = 1 ∧ s.planeSize = 256 * 256 ∧
      ∀ c k p, s.planeOffset c k p = (yB p).toNat * 256 + (xB p).toNat := by
  simp [State.planeCount, State.planeSize, State.planeOffset, h]

/-- A configuration that START let through is one of the five operations. -/
theorem FrameConfig.scope_cases {s : State} (h : FrameConfig s) :
    s.actScope = 1 ∨ s.actScope = 2 ∨ s.actScope = 3 ∨ s.actScope = 4 ∨ s.actScope = 5 := by
  have hvalid := h.scope_valid
  bv_omega

theorem channel_le (p : Pixel) (c : Nat) : channel p c ≤ 255 := by
  have hr := p.r.isLt
  have hg := p.g.isLt
  have hb := p.b.isLt
  unfold channel
  split <;> omega

/-- A cell of row `y` and column `x` lies in a grid of 256 rows. -/
theorem rowMajor_lt {w x y : Nat} (hx : x < w) (hy : y < 256) : y * w + x < 256 * w :=
  calc y * w + x < (y + 1) * w := by rw [Nat.add_mul]; omega
    _ ≤ 256 * w := Nat.mul_le_mul_right w hy

/-- A row-major address determines its row and its column. -/
theorem rowMajor_inj {w x x' y y' : Nat} (hx : x < w) (hx' : x' < w) :
    y * w + x = y' * w + x' ↔ y = y' ∧ x = x' := by
  have hdiv {z u : Nat} (hu : u < w) : (z * w + u) / w = z ∧ (z * w + u) % w = u :=
    (Nat.div_mod_unique (by omega)).2 ⟨by rw [Nat.mul_comm]; omega, hu⟩
  constructor
  · intro h
    obtain ⟨hy, hm⟩ := hdiv (z := y) hx
    obtain ⟨hy', hm'⟩ := hdiv (z := y') hx'
    rw [h] at hy hm
    exact ⟨hy.symm.trans hy', hm.symm.trans hm'⟩
  · rintro ⟨rfl, rfl⟩
    rfl

/-- A counter of a plane is a word of the result. -/
theorem State.planeWord_lt {s : State} {c v : Nat} (hc : c < s.planeCount) (hv : v < s.planeSize) :
    s.planeWord c v < s.planeCount * s.planeSize :=
  calc c * s.planeSize + v < (c + 1) * s.planeSize := by rw [Nat.add_mul]; omega
    _ ≤ s.planeCount * s.planeSize := Nat.mul_le_mul_right _ hc

section
variable {s : State} (h : FrameConfig s)
include h

/-- The planes make up the result (R39). -/
theorem FrameConfig.cleared_eq : s.cnt.cleared = s.planeCount * s.planeSize := by
  rw [h.cleared, h.result_len]
  obtain e | e | e | e | e := h.scope_cases
  · simp [State.planes_histogram e, resultWords, e]
  · simp [State.planes_luma e, resultWords, e]
  · simp [State.planes_parade e, resultWords, e, ← Nat.mul_assoc]
  · simp [State.planes_policyA e, resultWords, e]
  · simp [State.planes_policyB e, resultWords, e]

/-- Every pixel has its counter inside the plane: none is dropped (R86, R96). -/
theorem FrameConfig.planeOffset_lt (c k : Nat) (p : Pixel) : s.planeOffset c k p < s.planeSize := by
  have hk := Nat.mod_lt k h.width_pos
  obtain e | e | e | e | e := h.scope_cases
  · obtain ⟨-, hsize, hoff⟩ := State.planes_histogram e
    rw [hsize, hoff]
    exact Nat.lt_succ_of_le (channel_le p c)
  · obtain ⟨-, hsize, hoff⟩ := State.planes_luma e
    rw [hsize, hoff]
    exact rowMajor_lt hk (by omega)
  · obtain ⟨-, hsize, hoff⟩ := State.planes_parade e
    rw [hsize, hoff]
    exact rowMajor_lt hk (by omega)
  · obtain ⟨-, hsize, hoff⟩ := State.planes_policyA e
    have hx := xA_range p
    have hy := yA_range p
    rw [hsize, hoff]
    exact rowMajor_lt (by omega) (by omega)
  · obtain ⟨-, hsize, hoff⟩ := State.planes_policyB e
    have hx := xB_range p
    have hy := yB_range p
    rw [hsize, hoff]
    exact rowMajor_lt (by omega) (by omega)

/-- Of the counters of plane `c`, a pixel has the one at its offset and no other. -/
theorem FrameConfig.mem_nextCells_iff {c v : Nat} (hc : c < s.planeCount) (hv : v < s.planeSize) (p : Pixel) :
    s.planeWord c v ∈ s.nextCells p ↔ s.planeOffset c s.k.toNat p = v := by
  simp only [State.nextCells, List.mem_map, List.mem_range]
  constructor
  · rintro ⟨d, -, e⟩
    obtain ⟨rfl, hoff⟩ := (rowMajor_inj (h.planeOffset_lt d s.k.toNat p) hv).1 e
    exact hoff
  · rintro rfl
    exact ⟨c, hc, rfl⟩

/-- The counters of a pixel are distinct, for they lie in different planes (R119). -/
theorem FrameConfig.nodup_nextCells (p : Pixel) : (s.nextCells p).Nodup :=
  List.nodup_range.map_on fun c _ d _ e =>
    ((rowMajor_inj (h.planeOffset_lt c s.k.toNat p) (h.planeOffset_lt d s.k.toNat p)).1 e).1

/-- The counters of a pixel are specified (R86, R96). -/
theorem FrameConfig.nextCells_lt_cleared {p : Pixel} : ∀ j ∈ s.nextCells p, j < s.cnt.cleared := by
  intro j hj
  simp only [State.nextCells, List.mem_map, List.mem_range] at hj
  obtain ⟨c, hc, rfl⟩ := hj
  rw [h.cleared_eq]
  exact State.planeWord_lt hc (h.planeOffset_lt c s.k.toNat p)

end

/-! ### The operation of a beat in RUN -/

theorem State.nextCells_histogram {s : State} (h : s.actScope = 1) (p : Pixel) :
    s.nextCells p = histogramCells p := by
  simp [State.nextCells, State.planeWord, State.planes_histogram h, histogramCells, channel, List.range_succ]

theorem State.nextCells_luma {s : State} (h : s.actScope = 2) (p : Pixel) :
    s.nextCells p = lumaCells s.actWidth.toNat (column s.k s.actWidth) p := by
  simp [State.nextCells, State.planeWord, State.planes_luma h, lumaCells_eq, column]

theorem State.nextCells_parade {s : State} (h : s.actScope = 3) (p : Pixel) :
    s.nextCells p = paradeCells s.actWidth.toNat (column s.k s.actWidth) p := by
  simp [State.nextCells, State.planeWord, State.planes_parade h, paradeCells_eq, channel, column, List.range_succ,
    ← Nat.mul_assoc, ← Nat.add_assoc]

theorem State.nextCells_policyA {s : State} (h : s.actScope = 4) (p : Pixel) : s.nextCells p = policyACells p := by
  simp [State.nextCells, State.planeWord, State.planes_policyA h, policyACells_eq]

theorem State.nextCells_policyB {s : State} (h : s.actScope = 5) (p : Pixel) : s.nextCells p = policyBCells p := by
  simp [State.nextCells, State.planeWord, State.planes_policyB h, policyBCells_eq]

/-- In a valid configuration every beat selects an operation, which does the frame step on the pixel's counters (R74,
R118). -/
theorem FrameConfig.beat_selects {s : State} (h : FrameConfig s) (p : Pixel) (last : Bool) :
    ∃ i, decodeRunBeat s.actScope p last = .ok i ∧ exec i s = .next (s.frameStep (s.nextCells p) last) := by
  obtain e | e | e | e | e := h.scope_cases
  · exact ⟨.pixHistogram p last, by rw [e]; rfl, by rw [s.nextCells_histogram e]; rfl⟩
  · exact ⟨.pixWaveformLuma p last, by rw [e]; rfl, by rw [s.nextCells_luma e]; rfl⟩
  · exact ⟨.pixWaveformParade p last, by rw [e]; rfl, by rw [s.nextCells_parade e]; rfl⟩
  · exact ⟨.pixVectorscopeA p last, by rw [e]; rfl, by rw [s.nextCells_policyA e]; rfl⟩
  · exact ⟨.pixVectorscopeB p last, by rw [e]; rfl, by rw [s.nextCells_policyB e]; rfl⟩

end Sys2Proof.Machine
end

section
/-! A pixel is counted (`43_command_interface.md` R118 to R120): what it does to the block, to the sum of each plane, and to
the count of each counter. -/

namespace Sys2Proof.Machine

/-! ### The frame step of a pixel -/

/-- The block after a pixel is counted in `cells` and, if it is the last one, completes the frame. -/
def State.countPixel (s : State) (cells : List Nat) (last : Bool) : State :=
  { s with
    k := s.k + 1
    cnt := s.cnt.incrementAll cells
    seq := if last then .done else .run
    doneIrq := s.doneIrq || last }

/-- A beat that is not malformed and has room in its counters is counted (R118 to R120). -/
theorem State.frameStep_of_room {s : State} (hs : s.seq = .run) {cells : List Nat} {last : Bool}
    (hl : last = true ↔ s.k.toNat + 1 = s.n) (hroom : ∀ j ∈ cells, s.cnt.readWord j ≠ 0xFFFFFFFF) :
    s.frameStep cells last = s.countPixel cells last := by
  obtain ⟨⟨h, hk⟩, -⟩ | ⟨⟨h, hk⟩, -⟩ | ⟨⟨-, -, h⟩, -⟩ | ⟨h, -, e⟩ | ⟨⟨h, -⟩, -, e⟩ := State.frameStep_cases hs cells last
  · have := hl.1 h
    omega
  · simp [hl.2 hk] at h
  · simp [(s.cnt.anyFull_eq_false_iff cells).2 hroom] at h
  · have hlast : last = false := by
      obtain ⟨h, -⟩ | ⟨h, hk⟩ := h
      · exact h
      · have := hl.1 h
        omega
    rw [e]
    simp [State.countPixel, hlast, hs]
  · rw [e]
    simp [State.countPixel, h]

/-- A beat after which the counters are specified was counted, with room in each of its counters (R118, R119). -/
theorem State.frameStep_of_counting {s : State} (hs : s.seq = .run) (hk : s.k.toNat < s.n) {cells : List Nat}
    {last : Bool} (hc : (s.frameStep cells last).counting = true) :
    (∀ j ∈ cells, s.cnt.readWord j ≠ 0xFFFFFFFF) ∧ s.frameStep cells last = s.countPixel cells last := by
  have herr (e : BlockError) (u : State) (x : DWord) : (u.raiseOnBeat e x last).counting = false := by
    cases last <;> rfl
  obtain ⟨-, e⟩ | ⟨-, e⟩ | ⟨-, e⟩ | ⟨hl, hf, -⟩ | ⟨⟨hl, hn⟩, hf, -⟩ := State.frameStep_cases hs cells last
  · simp [e, herr] at hc
  · simp [e, herr] at hc
  · simp [e, herr] at hc
  · have hroom := (s.cnt.anyFull_eq_false_iff cells).1 hf
    have hiff : last = true ↔ s.k.toNat + 1 = s.n := by
      obtain ⟨rfl, hne⟩ | ⟨-, hlt⟩ := hl
      · simp [hne]
      · omega
    exact ⟨hroom, State.frameStep_of_room hs hiff hroom⟩
  · have hroom := (s.cnt.anyFull_eq_false_iff cells).1 hf
    exact ⟨hroom, State.frameStep_of_room hs (by simp [hl, hn]) hroom⟩

/-! ### The counters of the next pixel -/

theorem Legal.frame_run {s : State} (h : Legal s) (hs : s.seq = .run) : FrameConfig s :=
  h.frame (s.counting_iff.2 (.inr (.inl hs)))

/-- A counted pixel changes its counters and what R119 and R120 name, and nothing else. -/
theorem Legal.countedBeat_countPixel {s : State} (h : Legal s) (hs : s.seq = .run) (p : Pixel) (last : Bool) :
    countedBeat s (s.countPixel (s.nextCells p) last) (s.nextCells p) last :=
  have hf := h.frame_run hs
  ⟨rfl, Memory.incrementAll_cleared _ _, Memory.incrementAll_epoch _ _,
    Memory.readWord_incrementAll h.cnt_wf (hf.nodup_nextCells p) hf.nextCells_lt_cleared,
    fun _ ha => Memory.read_incrementAll_other _ _ ha⟩

/-- Settles O25: the increment list of R81 is the pixel's counters, one in each channel's plane, and a beat with room in
them is counted. -/
theorem histogramBeatCounts : Obligations.HistogramBeatCounts := by
  intro s p last h hs hscope hl hroom
  have hcells : s.nextCells p = [p.r.toNat, 256 + p.g.toNat, 512 + p.b.toNat] := s.nextCells_histogram hscope p
  rw [← hcells] at hroom ⊢
  refine ⟨s.countPixel (s.nextCells p) last, ?_, h.countedBeat_countPixel hs p last⟩
  calc exec (.pixHistogram p last) s
    _ = .next (s.frameStep (s.nextCells p) last) := by rw [s.nextCells_histogram hscope]; rfl
    _ = .next (s.countPixel (s.nextCells p) last) := by rw [State.frameStep_of_room hs hl hroom]

/-- Where there is room an increment is the integer one (R119). -/
theorem Memory.toNat_readWord_incrementAll {m : Memory} (h : m.wf = true) {t : List Nat} (hn : t.Nodup)
    (hc : ∀ i ∈ t, i < m.cleared) (hroom : ∀ i ∈ t, m.readWord i ≠ 0xFFFFFFFF) (j : Nat) :
    ((m.incrementAll t).readWord j).toNat = (m.readWord j).toNat + if j ∈ t then 1 else 0 := by
  rw [Memory.readWord_incrementAll h hn hc]
  split
  case isTrue hj =>
    have hne := hroom j hj
    bv_omega
  case isFalse => simp

theorem Legal.toNat_readWord_countPixel {s : State} (h : Legal s) (hs : s.seq = .run) {p : Pixel}
    (hroom : ∀ j ∈ s.nextCells p, s.cnt.readWord j ≠ 0xFFFFFFFF) (last : Bool) (j : Nat) :
    ((s.countPixel (s.nextCells p) last).cnt.readWord j).toNat =
      (s.cnt.readWord j).toNat + if j ∈ s.nextCells p then 1 else 0 :=
  have hf := h.frame_run hs
  Memory.toNat_readWord_incrementAll h.cnt_wf (hf.nodup_nextCells p) hf.nextCells_lt_cleared hroom j

/-! ### The sum of each plane -/

/-- Every plane of the result sums to the cursor. -/
def PlanesSum (s : State) : Prop := ∀ c < s.planeCount, s.cnt.sumFrom (s.planeWord c 0) 1 s.planeSize = s.k.toNat

/-- A counted pixel adds one to each plane. -/
theorem PlanesSum.countPixel {s : State} (hsum : PlanesSum s) (h : Legal s) (hs : s.seq = .run) {p : Pixel}
    (hroom : ∀ j ∈ s.nextCells p, s.cnt.readWord j ≠ 0xFFFFFFFF) (last : Bool) :
    PlanesSum (s.countPixel (s.nextCells p) last) := by
  intro c hc
  have hf := h.frame_run hs
  have hoff := hf.planeOffset_lt c s.k.toNat p
  have hword (q : Nat) : s.planeWord c 0 + 1 * q = s.planeWord c q := by simp [State.planeWord]
  calc (s.countPixel (s.nextCells p) last).cnt.sumFrom (s.planeWord c 0) 1 s.planeSize
    _ = s.cnt.sumFrom (s.planeWord c 0) 1 s.planeSize + 1 := by
      refine Memory.sumFrom_bump hoff ?_ fun q hq hne => BitVec.eq_of_toNat_eq ?_
      · rw [hword, h.toNat_readWord_countPixel hs hroom, if_pos ((hf.mem_nextCells_iff hc hoff p).2 rfl)]
      · have hout : s.planeWord c q ∉ s.nextCells p := fun hj => hne ((hf.mem_nextCells_iff hc hq p).1 hj).symm
        rw [hword, h.toNat_readWord_countPixel hs hroom, if_neg hout, Nat.add_zero]
    _ = s.k.toNat + 1 := by rw [hsum c hc]
    _ = (s.k + 1).toNat := (State.k_succ_toNat (h.run_cursor hs)).symm

theorem planesSum_iff_of_histogram {s : State} (h : s.actScope = 1) :
    PlanesSum s ↔ ∀ c < 3, s.cnt.sumFrom (256 * c) 1 256 = s.k.toNat := by
  obtain ⟨hcount, hsize, -⟩ := State.planes_histogram h
  simp [PlanesSum, State.planeWord, hcount, hsize, Nat.mul_comm]

theorem planesSum_iff_of_luma {s : State} (h : s.actScope = 2) :
    PlanesSum s ↔ s.cnt.sumFrom 0 1 (256 * s.actWidth.toNat) = s.k.toNat := by
  obtain ⟨hcount, hsize, -⟩ := State.planes_luma h
  simp [PlanesSum, State.planeWord, hcount, hsize]

theorem planesSum_iff_of_parade {s : State} (h : s.actScope = 3) :
    PlanesSum s ↔
      ∀ p < 3, s.cnt.sumFrom (p * 256 * s.actWidth.toNat) 1 (256 * s.actWidth.toNat) = s.k.toNat := by
  obtain ⟨hcount, hsize, -⟩ := State.planes_parade h
  simp [PlanesSum, State.planeWord, hcount, hsize, Nat.mul_assoc]

theorem planesSum_iff_of_vectorscope {s : State} (h : s.actScope = 4 ∨ s.actScope = 5) :
    PlanesSum s ↔ s.cnt.sumFrom 0 1 65536 = s.k.toNat := by
  have hplanes : s.planeCount = 1 ∧ s.planeSize = 65536 := by
    obtain e | e := h
    · simp [State.planes_policyA e]
    · simp [State.planes_policyB e]
  simp [PlanesSum, State.planeWord, hplanes]

/-- `PlanesCounted` is one sum for each plane of the operation. -/
theorem planesCounted_iff {s : State} (hf : s.counting = true → FrameConfig s) :
    PlanesCounted s ↔ (s.counting = true → PlanesSum s) := by
  constructor
  · intro h hc
    obtain e | e | e | e | e := (hf hc).scope_cases
    · exact (planesSum_iff_of_histogram e).2 (h.histogram hc e)
    · exact (planesSum_iff_of_luma e).2 (h.luma hc e)
    · exact (planesSum_iff_of_parade e).2 (h.parade hc e)
    · exact (planesSum_iff_of_vectorscope (.inl e)).2 (h.vectorscope hc (.inl e))
    · exact (planesSum_iff_of_vectorscope (.inr e)).2 (h.vectorscope hc (.inr e))
  · intro h
    exact {
      histogram := fun hc e => (planesSum_iff_of_histogram e).1 (h hc)
      luma := fun hc e => (planesSum_iff_of_luma e).1 (h hc)
      parade := fun hc e => (planesSum_iff_of_parade e).1 (h hc)
      vectorscope := fun hc e => (planesSum_iff_of_vectorscope e).1 (h hc) }

/-! ### The count of each counter -/

/-- Each counter of each plane is the number of the beats `past` that it is the counter of. -/
def CountersTally (s : State) (past : List Beat) : Prop :=
  ∀ c < s.planeCount, ∀ v < s.planeSize,
    (s.cnt.readWord (s.planeWord c v)).toNat = pixelsWith past (fun k p => s.planeOffset c k p == v)

/-- The cursor and the counters tell of the beats `past`. -/
structure Tallied (s : State) (past : List Beat) : Prop where
  length : past.length = s.k.toNat
  counters : CountersTally s past

/-- A counted pixel joins the beats tallied. -/
theorem Tallied.countPixel {s : State} {past : List Beat} (ht : Tallied s past) (h : Legal s) (hs : s.seq = .run)
    {b : Beat} (hroom : ∀ j ∈ s.nextCells (pixelOfData b.data), s.cnt.readWord j ≠ 0xFFFFFFFF) (last : Bool) :
    Tallied (s.countPixel (s.nextCells (pixelOfData b.data)) last) (past ++ [b]) where
  length := by
    rw [List.length_append, ht.length]
    exact (State.k_succ_toNat (h.run_cursor hs)).symm
  counters := by
    intro c hc v hv
    have hmem := (h.frame_run hs).mem_nextCells_iff hc hv (pixelOfData b.data)
    calc ((s.countPixel (s.nextCells (pixelOfData b.data)) last).cnt.readWord (s.planeWord c v)).toNat
      _ = (s.cnt.readWord (s.planeWord c v)).toNat +
          if s.planeWord c v ∈ s.nextCells (pixelOfData b.data) then 1 else 0 :=
        h.toNat_readWord_countPixel hs hroom last _
      _ = pixelsWith past (fun k p => s.planeOffset c k p == v) +
          if s.planeOffset c past.length (pixelOfData b.data) == v then 1 else 0 := by
        simp only [ht.counters c hc v hv, hmem, ht.length, beq_iff_eq]
      _ = pixelsWith (past ++ [b]) (fun k p => s.planeOffset c k p == v) := (pixelsWith_concat ..).symm

/-! ### The counters by row and column -/

/-- A grid of 256 rows is read column by column. -/
theorem forall_rowMajor {w : Nat} {P : Nat → Prop} :
    (∀ v < 256 * w, P v) ↔ ∀ x < w, ∀ y < 256, P (y * w + x) := by
  constructor
  · exact fun h x hx y hy => h _ (rowMajor_lt hx hy)
  · intro h v hv
    have hw : 0 < w := by
      by_contra h0
      simp [Nat.eq_zero_of_not_pos h0] at hv
    have hrow : v / w < 256 := Nat.div_lt_of_lt_mul (by rw [Nat.mul_comm]; exact hv)
    rw [← Nat.div_add_mod' v w]
    exact h (v % w) (Nat.mod_lt v hw) (v / w) hrow

/-- The same with the row of a level, 255 - level (R87). -/
theorem forall_level {w : Nat} {P : Nat → Prop} :
    (∀ v < 256 * w, P v) ↔ ∀ x < w, ∀ level < 256, P ((255 - level) * w + x) := by
  rw [forall_rowMajor]
  constructor
  · exact fun h x hx level _ => h x hx (255 - level) (by omega)
  · intro h x hx y hy
    have := h x hx (255 - y) (by omega)
    rwa [show 255 - (255 - y) = y by omega] at this

theorem forall_lt_three {P : Nat → Prop} : (∀ c < 3, P c) ↔ P 0 ∧ P 1 ∧ P 2 := by
  rw [Nat.forall_lt_succ_right, Nat.forall_lt_succ_right, Nat.forall_lt_succ_right]
  simp [and_assoc]

/-- The cell of a level in a column is the one asked for exactly when both agree. -/
theorem levelOffset_beq {w x level v : Nat} (hx : x < w) (hl : level ≤ 255) (hv : v < 256) (k : Nat) :
    ((255 - level) * w + k % w == (255 - v) * w + x) = (k % w == x && level == v) := by
  have hrow : 255 - level = 255 - v ↔ level = v := by omega
  rw [Bool.eq_iff_iff]
  simp [rowMajor_inj (Nat.mod_lt k (by omega)) hx, hrow, and_comm]

theorem toNat_beq {a : Int} (ha : 0 ≤ a) (v : Nat) : (a.toNat == v) = (a == (v : Int)) := by
  rw [Bool.eq_iff_iff]
  simp only [beq_iff_eq]
  omega

/-- The cell of two chroma coordinates is the one asked for exactly when both agree. -/
theorem gridOffset_beq {a b : Int} (ha : 0 ≤ a ∧ a ≤ 255) (hb : 0 ≤ b) {x y : Nat} (hx : x < 256) :
    (b.toNat * 256 + a.toNat == y * 256 + x) = (a == (x : Int) && b == (y : Int)) := by
  rw [Bool.eq_iff_iff]
  simp only [beq_iff_eq, Bool.and_eq_true]
  omega

theorem countersTally_iff_of_histogram {s : State} (h : s.actScope = 1) (past : List Beat) :
    CountersTally s past ↔ ∀ v < 256,
      (s.cnt.readWord v).toNat = pixelsWith past (fun _ p => p.r.toNat == v) ∧
      (s.cnt.readWord (256 + v)).toNat = pixelsWith past (fun _ p => p.g.toNat == v) ∧
      (s.cnt.readWord (512 + v)).toNat = pixelsWith past (fun _ p => p.b.toNat == v) := by
  obtain ⟨hcount, hsize, hoff⟩ := State.planes_histogram h
  simp [CountersTally, State.planeWord, hcount, hsize, hoff, forall_lt_three, channel, forall_and]

theorem countersTally_iff_of_luma {s : State} (h : s.actScope = 2) (past : List Beat) :
    CountersTally s past ↔ ∀ x < s.actWidth.toNat, ∀ v < 256,
      (s.cnt.readWord ((255 - v) * s.actWidth.toNat + x)).toNat =
        pixelsWith past (fun k p => k % s.actWidth.toNat == x && luma709 p == v) := by
  obtain ⟨hcount, hsize, hoff⟩ := State.planes_luma h
  simp only [CountersTally, State.planeWord, hcount, hsize, hoff, Nat.lt_one_iff, forall_eq, forall_level]
  refine forall₄_congr fun x hx v hv => ?_
  have hcell (k : Nat) (p : Pixel) :=
    levelOffset_beq hx (show (luma709 p).toNat ≤ 255 by have := luma709_range p; omega) hv k
  simp [hcell, toNat_beq (luma709_range _).1]

theorem countersTally_iff_of_parade {s : State} (h : s.actScope = 3) (past : List Beat) :
    CountersTally s past ↔ ∀ x < s.actWidth.toNat, ∀ v < 256,
      (s.cnt.readWord ((255 - v) * s.actWidth.toNat + x)).toNat =
        pixelsWith past (fun k p => k % s.actWidth.toNat == x && p.r.toNat == v) ∧
      (s.cnt.readWord (256 * s.actWidth.toNat + (255 - v) * s.actWidth.toNat + x)).toNat =
        pixelsWith past (fun k p => k % s.actWidth.toNat == x && p.g.toNat == v) ∧
      (s.cnt.readWord (512 * s.actWidth.toNat + (255 - v) * s.actWidth.toNat + x)).toNat =
        pixelsWith past (fun k p => k % s.actWidth.toNat == x && p.b.toNat == v) := by
  obtain ⟨hcount, hsize, hoff⟩ := State.planes_parade h
  have hplane (c : Nat) : (∀ v < s.planeSize,
      (s.cnt.readWord (s.planeWord c v)).toNat = pixelsWith past (fun k p => s.planeOffset c k p == v)) ↔
      ∀ x < s.actWidth.toNat, ∀ v < 256,
        (s.cnt.readWord (c * 256 * s.actWidth.toNat + (255 - v) * s.actWidth.toNat + x)).toNat =
          pixelsWith past (fun k p => k % s.actWidth.toNat == x && channel p c == v) := by
    simp only [State.planeWord, hsize, hoff, forall_level]
    refine forall₄_congr fun x hx v hv => ?_
    simp only [levelOffset_beq hx (channel_le _ c) hv, Nat.mul_assoc, Nat.add_assoc]
  simp [CountersTally, hplane, hcount, forall_lt_three, channel, forall_and]

theorem countersTally_iff_of_policyA {s : State} (h : s.actScope = 4) (past : List Beat) :
    CountersTally s past ↔ ∀ x < 256, ∀ y < 256,
      (s.cnt.readWord (y * 256 + x)).toNat = pixelsWith past (fun _ p => xA p == x && yA p == y) := by
  obtain ⟨hcount, hsize, hoff⟩ := State.planes_policyA h
  simp only [CountersTally, State.planeWord, hcount, hsize, hoff, Nat.lt_one_iff, forall_eq, forall_rowMajor]
  refine forall₄_congr fun x hx y _ => ?_
  have hcell (p : Pixel) := gridOffset_beq (a := xA p) (b := yA p) (y := y)
    (by have := xA_range p; omega) (by have := yA_range p; omega) hx
  simp [hcell]

theorem countersTally_iff_of_policyB {s : State} (h : s.actScope = 5) (past : List Beat) :
    CountersTally s past ↔ ∀ x < 256, ∀ y < 256,
      (s.cnt.readWord (y * 256 + x)).toNat = pixelsWith past (fun _ p => xB p == x && yB p == y) := by
  obtain ⟨hcount, hsize, hoff⟩ := State.planes_policyB h
  simp only [CountersTally, State.planeWord, hcount, hsize, hoff, Nat.lt_one_iff, forall_eq, forall_rowMajor]
  refine forall₄_congr fun x hx y _ => ?_
  have hcell (p : Pixel) := gridOffset_beq (a := xB p) (b := yB p) (y := y)
    (by have := xB_range p; omega) (by have := yB_range p; omega) hx
  simp [hcell]

/-- `CountedExactly` is the tally of the operation's planes. -/
theorem countedExactly_iff {s : State} (hf : s.counting = true → FrameConfig s) (past : List Beat) :
    CountedExactly s past ↔ (s.counting = true → Tallied s past) := by
  constructor
  · intro h hc
    refine ⟨h.length hc, ?_⟩
    obtain e | e | e | e | e := (hf hc).scope_cases
    · exact (countersTally_iff_of_histogram e past).2 (h.histogram hc e)
    · exact (countersTally_iff_of_luma e past).2 (h.luma hc e)
    · exact (countersTally_iff_of_parade e past).2 (h.parade hc e)
    · exact (countersTally_iff_of_policyA e past).2 (h.vectorscopeA hc e)
    · exact (countersTally_iff_of_policyB e past).2 (h.vectorscopeB hc e)
  · intro h
    exact {
      length := fun hc => (h hc).length
      histogram := fun hc e => (countersTally_iff_of_histogram e past).1 (h hc).counters
      luma := fun hc e => (countersTally_iff_of_luma e past).1 (h hc).counters
      parade := fun hc e => (countersTally_iff_of_parade e past).1 (h hc).counters
      vectorscopeA := fun hc e => (countersTally_iff_of_policyA e past).1 (h hc).counters
      vectorscopeB := fun hc e => (countersTally_iff_of_policyB e past).1 (h hc).counters }

end Sys2Proof.Machine
end

section
/-! The count along a run (`40_histogram.md` R83, `41_waveform.md` R92, `42_vectorscope.md` R101): it begins at 0 in CLEAR,
every accepted beat that raises no error is counted, and no other event of a frame touches it. -/

namespace Sys2Proof.Machine

/-! ### Nothing is counted in CLEAR -/

/-- With no byte listed every specified counter is 0 (R40). -/
theorem Memory.readWord_of_cells_nil {m : Memory} (h : m.cells = []) {i : Nat} (hi : i < m.cleared) :
    m.readWord i = 0 := by
  have hread {a : Nat} (ha : a < 4 * m.cleared) : m.read a = 0 := by simp [Memory.read, Memory.unlisted, h, ha]
  unfold Memory.readWord
  rw [hread (by omega), hread (by omega), hread (by omega), hread (by omega)]
  rfl

theorem Memory.sumFrom_eq_zero {m : Memory} {start stride n : Nat}
    (h : ∀ l < n, m.readWord (start + stride * l) = 0) : m.sumFrom start stride n = 0 := by
  induction n with
  | zero => rfl
  | succ n ih =>
    rw [Memory.sumFrom, ih fun l hl => h l (by omega), h n (by omega)]
    rfl

theorem Legal.readWord_of_clear {s : State} (h : Legal s) (hs : s.seq = .clear) {c v : Nat} (hc : c < s.planeCount)
    (hv : v < s.planeSize) : s.cnt.readWord (s.planeWord c v) = 0 := by
  have hf := h.frame (s.counting_iff.2 (.inl hs))
  exact Memory.readWord_of_cells_nil (h.clear_cells hs) (hf.cleared_eq ▸ State.planeWord_lt hc hv)

theorem Legal.planesSum_of_clear {s : State} (h : Legal s) (hs : s.seq = .clear) : PlanesSum s := by
  intro c hc
  rw [h.clear_cursor hs]
  exact Memory.sumFrom_eq_zero fun q hq => by simpa [State.planeWord] using h.readWord_of_clear hs hc hq

theorem Legal.tallied_of_clear {s : State} (h : Legal s) (hs : s.seq = .clear) : Tallied s [] where
  length := by rw [h.clear_cursor hs]; rfl
  counters := fun _ hc _ hv => by rw [h.readWord_of_clear hs hc hv]; rfl

/-! ### An accepted beat -/

/-- An accepted beat is counted, or the counters are no longer specified (R40, R118, R121). -/
theorem Legal.beat_cases {s t : State} {b : Beat} {i : Instr} (h : Legal s)
    (hd : decodeBeat s.seq s.actScope b = .ok i) (he : exec i s = .next t) (hc : t.counting = true) :
    s.seq = .run ∧ (∀ j ∈ s.nextCells (pixelOfData b.data), s.cnt.readWord j ≠ 0xFFFFFFFF) ∧
      t = s.countPixel (s.nextCells (pixelOfData b.data)) b.last := by
  obtain ⟨hs, hd⟩ | ⟨hs, rfl⟩ := decodeBeat_eq_ok hd
  · obtain ⟨i', hd', he'⟩ := (h.frame_run hs).beat_selects (pixelOfData b.data) b.last
    cases hd.symm.trans hd'
    cases he.symm.trans he'
    exact ⟨hs, State.frameStep_of_counting hs (h.run_cursor hs) hc⟩
  · cases he
    cases hl : b.last <;> simp [State.counting, hs, hl] at hc

/-! ### Every other event -/

/-- The events from `s` to `t` counted nothing: it is the same frame, with the same counts and the same beats to come. -/
structure SameCount (s t : State) : Prop where
  counting : s.counting = true
  source : t.source = s.source
  cnt : t.cnt = s.cnt
  k : t.k = s.k
  actScope : t.actScope = s.actScope
  actWidth : t.actWidth = s.actWidth

section
variable {s t : State} (h : SameCount s t)
include h

theorem SameCount.planeCount : t.planeCount = s.planeCount := by
  simp only [State.planeCount, h.actScope]

theorem SameCount.planeSize : t.planeSize = s.planeSize := by
  simp only [State.planeSize, h.actScope, h.actWidth]

theorem SameCount.planeOffset : t.planeOffset = s.planeOffset := by
  funext c k p
  simp only [State.planeOffset, h.actScope, h.actWidth]

theorem SameCount.planesSum (hsum : PlanesSum s) : PlanesSum t := by
  simpa only [PlanesSum, State.planeWord, h.planeCount, h.planeSize, h.cnt, h.k] using hsum

theorem SameCount.tallied {past : List Beat} (ht : Tallied s past) : Tallied t past where
  length := ht.length.trans (congrArg BitVec.toNat h.k.symm)
  counters := by
    simpa only [CountersTally, State.planeWord, h.planeCount, h.planeSize, h.planeOffset, h.cnt] using ht.counters

end

/-- While a frame runs or is done its counters are specified, and waiting keeps them. -/
theorem SameCount.refl {s : State} (hs : s.seq = .run ∨ s.seq = .done) : SameCount s s :=
  ⟨s.counting_iff.2 (.inr hs), rfl, rfl, rfl, rfl, rfl⟩

/-- A request after which a frame runs or is done has left it as it is (R125). -/
theorem RequestEffect.sameCount {i : Instr} {s t : State} (hr : RequestEffect s i t)
    (ht : t.seq = .run ∨ t.seq = .done) : SameCount s t := by
  cases hr with
  | @start _ e c =>
    rw [State.writeDone_seq] at ht
    obtain ⟨-, he⟩ | ⟨-, _, -, he⟩ | ⟨-, -, he⟩ := s.start_cases e c <;> rw [he] at ht ⊢
    · exact { SameCount.refl ht with }
    · simp at ht
    · simp at ht
  | abort => simp at ht
  | cfg | wrStatus | wrWidth | wrHeight | answer => exact { SameCount.refl ht with }

theorem State.clearDone_sameCount {s : State} (ht : s.clearDone.seq = .run ∨ s.clearDone.seq = .done) :
    SameCount s s.clearDone := by
  obtain ⟨hs, e⟩ | ⟨-, e⟩ := s.clearDone_cases <;> rw [e] at ht ⊢
  · exact ⟨s.counting_iff.2 (.inl hs), rfl, rfl, rfl, rfl, rfl⟩
  · exact SameCount.refl ht

/-- A step after which a frame runs or is done has accepted the source's next beat, or counted nothing. -/
theorem step_beat_or_sameCount {s t : State} (h : step s = .next t) (ht : t.seq = .run ∨ t.seq = .done) :
    SameCount s t ∨ ∃ b src sched turns i, s.source = b :: src ∧ decodeBeat s.seq s.actScope b = .ok i ∧
      exec i (s.awaiting s.hostReqs src sched turns) = .next t := by
  unfold step at h
  obtain hf | ⟨turn, sched, n, hf⟩ := s.fetch_cases
  · rw [hf] at h
    cases h
    exact .inl { SameCount.refl (s := s) ht with }
  rw [hf] at h
  have hs {u : State} (hu : SameCount { s with rsp := none, schedule := sched, freeTurns := n } u) : SameCount s u :=
    { hu with }
  cases turn with
  | bus =>
    obtain hb | ⟨q, rest, -, hb⟩ := State.fetchBus_cases { s with rsp := none, schedule := sched, freeTurns := n } <;>
      simp only [State.fetchTurn, hb] at h
    · cases h
      exact .inl (hs (SameCount.refl ht))
    · exact .inl { (exec_decodeReq_effect h).sameCount ht with }
  | beat =>
    obtain hb | hb | ⟨b, rest, i, hsrc, hd, hb⟩ :=
        State.fetchBeat_cases { s with rsp := none, schedule := sched, freeTurns := n } <;>
      simp only [State.fetchTurn, hb] at h
    · cases h
      exact .inl (hs (SameCount.refl ht))
    · cases h
    · exact .inr ⟨b, rest, sched, n, i, hsrc, hd, h⟩
  | clear =>
    cases h
    exact .inl (hs (State.clearDone_sameCount ht))
  | reset abandon =>
    cases h
    simp [State.resetWith] at ht
  | hostBreach => cases h
  | sourceBreach => cases h

/-- After a step the counters are specified and hold 0, the count from before, or one beat more. -/
theorem Legal.step_counting_cases {s t : State} (h : Legal s) (hst : step s = .next t) (hc : t.counting = true) :
    t.seq = .clear ∨ (t.seq ≠ .clear ∧ SameCount s t) ∨
    (t.seq ≠ .clear ∧ ∃ b src sched turns, s.source = b :: src ∧ s.seq = .run ∧
      (∀ j ∈ s.nextCells (pixelOfData b.data), s.cnt.readWord j ≠ 0xFFFFFFFF) ∧
      t = (s.awaiting s.hostReqs src sched turns).countPixel (s.nextCells (pixelOfData b.data)) b.last) := by
  by_cases hclear : t.seq = .clear
  · exact .inl hclear
  have ht : t.seq = .run ∨ t.seq = .done := (t.counting_iff.1 hc).resolve_left hclear
  obtain hsame | ⟨b, src, sched, turns, i, hsrc, hd, he⟩ := step_beat_or_sameCount hst ht
  · exact .inr (.inl ⟨hclear, hsame⟩)
  · exact .inr (.inr ⟨hclear, b, src, sched, turns, hsrc, (h.awaiting s.hostReqs src sched turns).beat_cases hd he hc⟩)

/-! ### Every step keeps the count -/

theorem step_keeps_planesCounted {s t : State} (h : Legal s) (hp : PlanesCounted s) (hst : step s = .next t) :
    PlanesCounted t := by
  have hlegal : Legal t := stepKeepsLegal s t h hst
  rw [planesCounted_iff h.frame] at hp
  rw [planesCounted_iff hlegal.frame]
  intro hc
  obtain hclear | ⟨-, hsame⟩ | ⟨-, b, src, sched, turns, -, hs, hroom, rfl⟩ := h.step_counting_cases hst hc
  · exact hlegal.planesSum_of_clear hclear
  · exact hsame.planesSum (hp hsame.counting)
  · have hsum : PlanesSum (s.awaiting s.hostReqs src sched turns) := hp (s.counting_iff.2 (.inr (.inl hs)))
    exact hsum.countPixel (h.awaiting _ _ _ _) hs hroom b.last

theorem step_keeps_countedExactly {s t : State} {past : List Beat} (h : Legal s) (hp : CountedExactly s past)
    (hst : step s = .next t) : CountedExactly t (pastAfter s t past) := by
  have hlegal : Legal t := stepKeepsLegal s t h hst
  rw [countedExactly_iff h.frame] at hp
  rw [countedExactly_iff hlegal.frame]
  intro hc
  obtain hclear | ⟨hne, hsame⟩ | ⟨hne, b, src, sched, turns, hsrc, hs, hroom, rfl⟩ := h.step_counting_cases hst hc
  · rw [pastAfter_clear hclear]
    exact hlegal.tallied_of_clear hclear
  · rw [pastAfter_of_ne hne, acceptedBeats_of_eq hsame.source, List.append_nil]
    exact hsame.tallied (hp hsame.counting)
  · rw [pastAfter_of_ne hne, acceptedBeats_of_cons hsrc]
    have ht : Tallied s past := hp (s.counting_iff.2 (.inr (.inl hs)))
    have ha : Tallied (s.awaiting s.hostReqs src sched turns) past := { ht with }
    exact ha.countPixel (h.awaiting _ _ _ _) hs hroom b.last

/-- Settles O50: a step after which the counters are specified has begun a frame, counted nothing, or counted the
source's next beat once in each plane (`Legal.step_counting_cases`). -/
theorem stepKeepsPlanesCounted : Obligations.StepKeepsPlanesCounted :=
  ⟨fun _ _ h hp hst => step_keeps_planesCounted h hp hst,
    fun _ h hs => (countedExactly_iff h.frame []).2 fun _ => h.tallied_of_clear hs,
    fun _ _ _ h hp hst => step_keeps_countedExactly h hp hst⟩

end Sys2Proof.Machine
end

section
/-! A frame whose beats come one after another (`43_command_interface.md` R117, R118): its result counts every pixel, and a
well-formed one reaches DONE. -/

namespace Sys2Proof.Machine

/-! ### Beats in a row -/

theorem acceptBeats_cons_of_ok {s t : State} {b : Beat} {i : Instr} (rest : List Beat)
    (hd : decodeBeat s.seq s.actScope b = .ok i) (he : exec i s = .next t) :
    acceptBeats (b :: rest) s = acceptBeats rest t := by
  simp [acceptBeats, hd, he]

/-- Where a beat is not accepted, it and those behind it wait. -/
theorem acceptBeats_cons_cases (b : Beat) (rest : List Beat) (s : State) :
    acceptBeats (b :: rest) s = s ∨
      ∃ i t, decodeBeat s.seq s.actScope b = .ok i ∧ exec i s = .next t ∧
        acceptBeats (b :: rest) s = acceptBeats rest t := by
  cases hd : decodeBeat s.seq s.actScope b with
  | ok i =>
    cases he : exec i s with
    | next t => exact .inr ⟨i, t, rfl, he, acceptBeats_cons_of_ok rest hd he⟩
    | fault r => cases r
    | refused r => exact .inl (by simp [acceptBeats, hd, he])
  | reject r => exact .inl (by simp [acceptBeats, hd])

/-- A beat is no START. -/
theorem startOperands_of_decodeBeat {s : State} {b : Beat} {i : Instr}
    (hd : decodeBeat s.seq s.actScope b = .ok i) : startOperands i = none := by
  obtain ⟨-, hd⟩ | ⟨-, rfl⟩ := decodeBeat_eq_ok hd
  · obtain ⟨cells, hc, -⟩ := exec_decodeRunBeat hd s
    exact startOperands_of_runBeat hc
  · rfl

/-- What every accepted beat keeps, the beats in a row keep. -/
theorem acceptBeats_keeps {P : State → Prop}
    (hbeat : ∀ {s t b i}, decodeBeat s.seq s.actScope b = .ok i → exec i s = .next t → P s → P t)
    (beats : List Beat) {s : State} (h : P s) : P (acceptBeats beats s) := by
  induction beats generalizing s with
  | nil => exact h
  | cons b rest ih =>
    obtain e | ⟨i, t, hd, he, e⟩ := acceptBeats_cons_cases b rest s <;> rw [e]
    · exact h
    · exact ih (hbeat hd he h)

theorem acceptBeats_legal (beats : List Beat) {s : State} (h : Legal s) : Legal (acceptBeats beats s) :=
  acceptBeats_keeps (fun hd he => (eventEffect_of_decodeBeat hd he).keeps_legal) beats h

/-- Beats leave the latched configuration alone (R34, R35). -/
theorem acceptBeats_keeps_latched (beats : List Beat) (s : State) :
    (acceptBeats beats s).actScope = s.actScope ∧ (acceptBeats beats s).actWidth = s.actWidth ∧
      (acceptBeats beats s).actHeight = s.actHeight := by
  refine acceptBeats_keeps
    (P := fun t => t.actScope = s.actScope ∧ t.actWidth = s.actWidth ∧ t.actHeight = s.actHeight)
    (fun hd he ⟨hscope, hwidth, hheight⟩ => ?_) beats ⟨rfl, rfl, rfl⟩
  obtain ⟨hscope', hwidth', hheight'⟩ := exec_keeps_latched he (startOperands_of_decodeBeat hd)
  exact ⟨hscope'.trans hscope, hwidth'.trans hwidth, hheight'.trans hheight⟩

/-- Where the counters are specified they tell of the beats accepted. -/
theorem acceptBeats_tallied (beats : List Beat) {s : State} {past : List Beat} (h : Legal s)
    (ht : s.counting = true → Tallied s past) (hc : (acceptBeats beats s).counting = true) :
    ∃ taken waiting, taken ++ waiting = beats ∧ Tallied (acceptBeats beats s) (past ++ taken) := by
  induction beats generalizing s past with
  | nil => exact ⟨[], [], rfl, by simpa [acceptBeats] using ht hc⟩
  | cons b rest ih =>
    obtain e | ⟨i, t, hd, he, e⟩ := acceptBeats_cons_cases b rest s <;> rw [e] at hc ⊢
    · exact ⟨[], b :: rest, rfl, by simpa using ht hc⟩
    have htally : t.counting = true → Tallied t (past ++ [b]) := by
      intro hct
      obtain ⟨hs, hroom, rfl⟩ := h.beat_cases hd he hct
      exact (ht (s.counting_iff.2 (.inr (.inl hs)))).countPixel h hs hroom b.last
    obtain ⟨taken, waiting, hall, htaken⟩ := ih ((eventEffect_of_decodeBeat hd he).keeps_legal h) htally hc
    exact ⟨b :: taken, waiting, congrArg (b :: ·) hall, by simpa using htaken⟩

/-- A DONE after as many beats as pixels has taken them all (R117). -/
theorem acceptBeats_done_tallied {s : State} {beats : List Beat} (h : Legal s)
    (ht : Tallied s []) (hlen : beats.length = s.n) (hdone : (acceptBeats beats s).seq = .done) :
    Tallied (acceptBeats beats s) beats := by
  obtain ⟨-, hwidth, hheight⟩ := acceptBeats_keeps_latched beats s
  obtain ⟨taken, waiting, hall, htaken⟩ :=
    acceptBeats_tallied beats h (fun _ => ht) ((State.counting_iff _).2 (.inr (.inr hdone)))
  have hlength : taken.length = beats.length :=
    calc taken.length = (acceptBeats beats s).k.toNat := htaken.length
      _ = (acceptBeats beats s).n := (acceptBeats_legal beats h).done_cursor hdone
      _ = s.n := by simp only [State.n, hwidth, hheight]
      _ = beats.length := hlen.symm
  have hnone : waiting = [] := by
    rw [← hall, List.length_append] at hlength
    exact List.eq_nil_of_length_eq_zero (by omega)
  rw [hnone, List.append_nil] at hall
  rwa [List.nil_append, hall] at htaken

/-! ### A well-formed frame -/

theorem pixelsWith_le_length (beats : List Beat) (f : Nat → Pixel → Bool) : pixelsWith beats f ≤ beats.length :=
  List.countP_le_length.trans_eq List.length_zipIdx

/-- A frame of fewer than 2^32 pixels fills no counter before its end (R119). -/
theorem Tallied.room {s : State} {past : List Beat} (ht : Tallied s past) (h : Legal s) (hs : s.seq = .run)
    (hn : s.n < 2 ^ 32) (p : Pixel) : ∀ j ∈ s.nextCells p, s.cnt.readWord j ≠ 0xFFFFFFFF := by
  intro j hj
  simp only [State.nextCells, List.mem_map, List.mem_range] at hj
  obtain ⟨c, hc, rfl⟩ := hj
  have hle : (s.cnt.readWord (s.planeWord c (s.planeOffset c s.k.toNat p))).toNat ≤ past.length := by
    rw [ht.counters c hc _ ((h.frame_run hs).planeOffset_lt c _ p)]
    exact pixelsWith_le_length past _
  have hk := h.run_cursor hs
  have hlen := ht.length
  bv_omega

/-- A well-formed beat with room in its counters is counted. -/
theorem Legal.exec_beat_of_room {s : State} (h : Legal s) (hs : s.seq = .run) {b : Beat}
    (hl : b.last = true ↔ s.k.toNat + 1 = s.n)
    (hroom : ∀ j ∈ s.nextCells (pixelOfData b.data), s.cnt.readWord j ≠ 0xFFFFFFFF) :
    ∃ i, decodeBeat s.seq s.actScope b = .ok i ∧
      exec i s = .next (s.countPixel (s.nextCells (pixelOfData b.data)) b.last) := by
  obtain ⟨i, hd, he⟩ := (h.frame_run hs).beat_selects (pixelOfData b.data) b.last
  rw [State.frameStep_of_room hs hl hroom] at he
  rw [hs]
  exact ⟨i, hd, he⟩

/-- A frame with s_last on its last beat alone and room for its pixels reaches DONE (R117, R118). -/
theorem acceptBeats_reaches_done (beats : List Beat) {s : State} {past : List Beat} (h : Legal s) (hs : s.seq = .run)
    (ht : Tallied s past) (hlen : past.length + beats.length = s.n) (hn : s.n < 2 ^ 32)
    (hlast : ∀ q ∈ beats.zipIdx past.length, (q.1.last = true ↔ q.2 + 1 = s.n)) :
    (acceptBeats beats s).seq = .done := by
  induction beats generalizing s past with
  | nil =>
    have hk := h.run_cursor hs
    rw [← ht.length, ← hlen] at hk
    simp at hk
  | cons b rest ih =>
    rw [List.zipIdx_cons, List.forall_mem_cons] at hlast
    obtain ⟨hb, hrest⟩ := hlast
    rw [ht.length] at hb
    have hroom := ht.room h hs hn (pixelOfData b.data)
    obtain ⟨i, hd, he⟩ := h.exec_beat_of_room hs hb hroom
    rw [acceptBeats_cons_of_ok rest hd he]
    have hlegal := (eventEffect_of_decodeBeat hd he).keeps_legal h
    cases hl : b.last with
    | true =>
      have hend : rest = [] := by
        have hk := hb.1 hl
        rw [← hlen, ← ht.length, List.length_cons] at hk
        exact List.eq_nil_of_length_eq_zero (by omega)
      rw [hend]
      rfl
    | false =>
      rw [hl] at hlegal
      refine ih hlegal rfl (ht.countPixel h hs hroom false) ?_ hn ?_
      · rw [List.length_append, Nat.add_assoc, Nat.add_comm [b].length]
        exact hlen
      · rw [List.length_append]
        exact hrest

/-! ### From CLEAR -/

/-- Settles O53: from CLEAR nothing is counted, the beats accepted are tallied (`acceptBeats_done_tallied`), and a
well-formed frame meets no error (`acceptBeats_reaches_done`). -/
theorem doneFrameCountsEveryPixel : Obligations.DoneFrameCountsEveryPixel := by
  rintro s t beats h hs hlen rfl
  have hrun : s.clearDone = { s with seq := .run } := by simp [State.clearDone, hs]
  have hn : s.clearDone.n = beats.length := by rw [hrun]; exact hlen.symm
  have hlegal : Legal s.clearDone := h.clearDone
  have hsame : SameCount s s.clearDone := State.clearDone_sameCount (.inl (by rw [hrun]))
  have htally : Tallied s.clearDone [] := hsame.tallied (h.tallied_of_clear hs)
  refine ⟨fun hlast hlt => ?_, fun hdone => ?_⟩
  · refine acceptBeats_reaches_done beats hlegal (by rw [hrun]) htally ?_ (by rwa [hn]) ?_
    · rw [hn, List.length_nil, Nat.zero_add]
    · rwa [hn]
  · obtain ⟨hscope, hwidth, -⟩ := acceptBeats_keeps_latched beats s.clearDone
    have hexact := (countedExactly_iff (acceptBeats_legal beats hlegal).frame beats).2 fun _ =>
      acceptBeats_done_tallied hlegal htally hn.symm hdone
    have hc := (State.counting_iff _).2 (.inr (.inr hdone))
    have hluma := hexact.luma hc
    have hparade := hexact.parade hc
    rw [hsame.actScope] at hscope
    rw [hscope, hwidth, hsame.actWidth] at hluma hparade
    exact ⟨fun e => hexact.histogram hc (hscope.trans e), hluma, hparade,
      fun e => hexact.vectorscopeA hc (hscope.trans e), fun e => hexact.vectorscopeB hc (hscope.trans e)⟩

end Sys2Proof.Machine
end

section
/-! The waveform operations (`41_waveform.md`): the luma of a pixel (R85), the counters of one beat (R87 to R90), and the
sum of each column of a grid along a run (R88, R92). -/

namespace Sys2Proof.Machine

/-! ### The luma -/

/-- The luma is one division of naturals: the numerator of R85 is never negative. -/
theorem luma709_eq (p : Pixel) :
    luma709 p = ((2126 * p.r.toNat + 7152 * p.g.toNat + 722 * p.b.toNat + 5000) / 10000 : Nat) := by
  simp [luma709, fdiv, lumaNum, sample]

/-- Settles O34: the luma is a floor (`luma709_eq`), so `Int.ediv`'s bounds hold of it, and it is a level
(`luma709_range`). -/
theorem lumaIsRoundedHalfUp : Obligations.LumaIsRoundedHalfUp := by
  intro p
  obtain ⟨h0, h255⟩ := luma709_range p
  have hfloor := luma709_eq p
  exact ⟨h0, h255, by omega, by omega⟩

/-! ### The counters of one beat -/

/-- The operation that a beat in RUN selects, on a beat that is not malformed and has room in its counters, counts the
pixel once in each plane and changes nothing else (R118 to R120). -/
theorem Legal.exec_runBeat_counts {s : State} (h : Legal s) (hs : s.seq = .run) {p : Pixel} {last : Bool} {i : Instr}
    (hd : decodeRunBeat s.actScope p last = .ok i) (hl : last = true ↔ s.k.toNat + 1 = s.n)
    (hroom : ∀ j ∈ s.nextCells p, s.cnt.readWord j ≠ 0xFFFFFFFF) :
    ∃ t, exec i s = .next t ∧ countedBeat s t (s.nextCells p) last := by
  obtain ⟨i', hd', he⟩ := (h.frame_run hs).beat_selects p last
  cases hd.symm.trans hd'
  rw [State.frameStep_of_room hs hl hroom] at he
  exact ⟨_, he, h.countedBeat_countPixel hs p last⟩

/-- Settles O26: the increment list of R89 is the cell of the luma's row (`luma709_eq`). -/
theorem lumaBeatCounts : Obligations.LumaBeatCounts := by
  rintro s p last cell h hs hscope hl rfl hroom
  have hcells := s.nextCells_luma hscope p
  rw [lumaCells_eq, luma709_eq, Int.toNat_natCast, column] at hcells
  rw [← hcells]
  exact h.exec_runBeat_counts hs (by rw [hscope]; rfl) hl (by rw [hcells]; simpa using hroom)

/-- Settles O27: the increment list of R90 has one cell in each plane (`paradeCells_eq`). -/
theorem paradeBeatCounts : Obligations.ParadeBeatCounts := by
  rintro s p last cells h hs hscope hl rfl hroom
  have hcells := s.nextCells_parade hscope p
  rw [paradeCells_eq, column] at hcells
  rw [← hcells] at hroom ⊢
  exact h.exec_runBeat_counts hs (by rw [hscope]; rfl) hl hroom

/-! ### The columns of a raster -/

/-- `columnBeats` counts the cursors of the column (R88). -/
theorem columnBeats_eq_count {w x : Nat} (hx : x < w) (k : Nat) : columnBeats k w x = k.count (· ≡ x [MOD w]) := by
  rw [Nat.count_modEq_card k (by omega) x, Nat.mod_eq_of_lt hx, columnBeats]

@[simp] theorem columnBeats_zero (w x : Nat) : columnBeats 0 w x = 0 := by
  simp [columnBeats]

/-- The beat with cursor `k` joins column `k mod w` and no other (R88). -/
theorem columnBeats_succ {w x : Nat} (hx : x < w) (k : Nat) :
    columnBeats (k + 1) w x = columnBeats k w x + if k % w = x then 1 else 0 := by
  simp only [columnBeats_eq_count hx, Nat.count_succ, Nat.ModEq, Nat.mod_eq_of_lt hx]

/-! ### The sum of each column -/

/-- The operation is one of the two waveforms. -/
def State.waveform (s : State) : Prop := s.actScope = 2 ∨ s.actScope = 3

/-- A plane of a waveform is a grid of 256 rows, and a pixel is counted in its own column (R87, R88). -/
theorem State.planes_waveform {s : State} (h : s.waveform) :
    s.planeSize = 256 * s.actWidth.toNat ∧
      ∀ c k p, ∃ y < 256, s.planeOffset c k p = y * s.actWidth.toNat + k % s.actWidth.toNat := by
  obtain e | e := h
  · obtain ⟨-, hsize, hoff⟩ := State.planes_luma e
    exact ⟨hsize, fun c k p => ⟨_, by omega, hoff c k p⟩⟩
  · obtain ⟨-, hsize, hoff⟩ := State.planes_parade e
    exact ⟨hsize, fun c k p => ⟨_, by omega, hoff c k p⟩⟩

/-- In every plane of a waveform column `x` sums to the beats of image column `x`. -/
def ColumnsSum (s : State) : Prop :=
  ∀ c < s.planeCount, ∀ x < s.actWidth.toNat,
    s.cnt.sumFrom (s.planeWord c x) s.actWidth.toNat 256 = columnBeats s.k.toNat s.actWidth.toNat x

/-- The words of a column are those of the plane with that column and any row. -/
theorem State.planeWord_column (s : State) (c x y : Nat) :
    s.planeWord c x + s.actWidth.toNat * y = s.planeWord c (y * s.actWidth.toNat + x) := by
  simp only [State.planeWord]
  rw [Nat.mul_comm s.actWidth.toNat y]
  omega

/-- A counted pixel adds one to its own column of each plane and nothing to the others. -/
theorem ColumnsSum.countPixel {s : State} (hsum : ColumnsSum s) (hw : s.waveform) (h : Legal s) (hs : s.seq = .run)
    {p : Pixel} (hroom : ∀ j ∈ s.nextCells p, s.cnt.readWord j ≠ 0xFFFFFFFF) (last : Bool) :
    ColumnsSum (s.countPixel (s.nextCells p) last) := by
  intro c hc x (hx : x < s.actWidth.toNat)
  have hf := h.frame_run hs
  obtain ⟨hsize, hoff⟩ := State.planes_waveform hw
  obtain ⟨row, hrow, hcell⟩ := hoff c s.k.toNat p
  have hread := h.toNat_readWord_countPixel hs hroom last
  have hmem {y : Nat} (hy : y < 256) :
      s.planeWord c x + s.actWidth.toNat * y ∈ s.nextCells p ↔ row = y ∧ s.k.toNat % s.actWidth.toNat = x := by
    rw [State.planeWord_column, hf.mem_nextCells_iff hc (hsize ▸ rowMajor_lt hx hy), hcell,
      rowMajor_inj (Nat.mod_lt _ hf.width_pos) hx]
  calc (s.countPixel (s.nextCells p) last).cnt.sumFrom (s.planeWord c x) s.actWidth.toNat 256
    _ = s.cnt.sumFrom (s.planeWord c x) s.actWidth.toNat 256 + if s.k.toNat % s.actWidth.toNat = x then 1 else 0 := by
      split
      case isTrue hcol =>
        refine Memory.sumFrom_bump hrow ?_ fun y hy hne => BitVec.eq_of_toNat_eq ?_
        · rw [hread, if_pos ((hmem hrow).2 ⟨rfl, hcol⟩)]
        · rw [hread, if_neg fun hj => hne ((hmem hy).1 hj).1.symm, Nat.add_zero]
      case isFalse hcol =>
        rw [Nat.add_zero]
        refine Memory.sumFrom_congr fun y hy => BitVec.eq_of_toNat_eq ?_
        rw [hread, if_neg fun hj => hcol ((hmem hy).1 hj).2, Nat.add_zero]
    _ = columnBeats (s.k.toNat + 1) s.actWidth.toNat x := by rw [hsum c hc x hx, columnBeats_succ hx]
    _ = columnBeats (s.k + 1).toNat s.actWidth.toNat x := by rw [State.k_succ_toNat (h.run_cursor hs)]

theorem columnsSum_iff_of_luma {s : State} (h : s.actScope = 2) :
    ColumnsSum s ↔ ∀ x < s.actWidth.toNat,
      s.cnt.sumFrom x s.actWidth.toNat 256 = columnBeats s.k.toNat s.actWidth.toNat x := by
  obtain ⟨hcount, -, -⟩ := State.planes_luma h
  simp [ColumnsSum, State.planeWord, hcount]

theorem columnsSum_iff_of_parade {s : State} (h : s.actScope = 3) :
    ColumnsSum s ↔ ∀ p < 3, ∀ x < s.actWidth.toNat,
      s.cnt.sumFrom (p * 256 * s.actWidth.toNat + x) s.actWidth.toNat 256 =
        columnBeats s.k.toNat s.actWidth.toNat x := by
  obtain ⟨hcount, hsize, -⟩ := State.planes_parade h
  simp [ColumnsSum, State.planeWord, hcount, hsize, Nat.mul_assoc]

/-- `ColumnsCounted` is the sum of each column of each plane, while a waveform is counted. -/
theorem columnsCounted_iff {s : State} : ColumnsCounted s ↔ (s.counting = true → s.waveform → ColumnsSum s) := by
  constructor
  · rintro h hc (e | e)
    · exact (columnsSum_iff_of_luma e).2 (h.luma hc e)
    · exact (columnsSum_iff_of_parade e).2 (h.parade hc e)
  · intro h
    exact {
      luma := fun hc e => (columnsSum_iff_of_luma e).1 (h hc (.inl e))
      parade := fun hc e => (columnsSum_iff_of_parade e).1 (h hc (.inr e)) }

/-! ### Every step keeps the columns -/

/-- At the start of a waveform frame every column is 0 (R40). -/
theorem Legal.columnsSum_of_clear {s : State} (h : Legal s) (hs : s.seq = .clear) (hw : s.waveform) :
    ColumnsSum s := by
  intro c hc x hx
  have hk : s.k.toNat = 0 := by rw [h.clear_cursor hs]; rfl
  rw [hk, columnBeats_zero]
  refine Memory.sumFrom_eq_zero fun y hy => ?_
  rw [State.planeWord_column]
  exact h.readWord_of_clear hs hc ((State.planes_waveform hw).1 ▸ rowMajor_lt hx hy)

theorem SameCount.columnsSum {s t : State} (h : SameCount s t) (hsum : ColumnsSum s) : ColumnsSum t := by
  simpa only [ColumnsSum, State.planeWord, h.planeCount, h.planeSize, h.actWidth, h.cnt, h.k] using hsum

/-- Settles O51: a step after which the counters are specified has begun a frame, counted nothing, or counted the
source's next beat in its own column of each plane (`Legal.step_counting_cases`). -/
theorem stepKeepsColumnsCounted : Obligations.StepKeepsColumnsCounted := by
  intro s t h hp hst
  rw [columnsCounted_iff] at hp ⊢
  intro hc hw
  obtain hclear | ⟨-, hsame⟩ | ⟨-, b, src, sched, turns, -, hs, hroom, rfl⟩ := h.step_counting_cases hst hc
  · exact (stepKeepsLegal s t h hst).columnsSum_of_clear hclear hw
  · have hws : s.waveform := by rwa [State.waveform, hsame.actScope] at hw
    exact hsame.columnsSum (hp hsame.counting hws)
  · have hsum : ColumnsSum (s.awaiting s.hostReqs src sched turns) := hp (s.counting_iff.2 (.inr (.inl hs))) hw
    exact hsum.countPixel hw (h.awaiting _ _ _ _) hs hroom b.last

end Sys2Proof.Machine
end

section
/-! The vectorscope operations (`42_vectorscope.md`): where the two policies place a pixel (R94, R96, R98), the
achromatic point (R102), and the counter of one beat (R97, R100). -/

namespace Sys2Proof.Machine

/-! ### The ranges of the policies -/

/-- Settles O35: the column (`xA_range`) and the row (`yA_range`) lie in the grid, so the pixel has its cell. -/
theorem policyARange : Obligations.PolicyARange :=
  fun p => ⟨xA_range p, yA_range p, policyACells_eq p⟩

/-- Settles O36: the ranges of the rounded differences bound the column and the row, which lie in the grid. -/
theorem policyBRange : Obligations.PolicyBRange :=
  fun p => ⟨chromaU_range p, chromaV_range p, xB_range p, yB_range p, policyBCells_eq p⟩

/-! ### The cell of a pixel, by its integer address -/

theorem policyACells_eq_singleton {p : Pixel} {cell : Nat} (hcell : (cell : Int) = yA p * 256 + xA p) :
    policyACells p = [cell] := by
  have hx := xA_range p
  have hy := yA_range p
  rw [policyACells_eq, show (yA p).toNat * 256 + (xA p).toNat = cell by omega]

theorem policyBCells_eq_singleton {p : Pixel} {cell : Nat} (hcell : (cell : Int) = yB p * 256 + xB p) :
    policyBCells p = [cell] := by
  have hx := xB_range p
  have hy := yB_range p
  rw [policyBCells_eq, show (yB p).toNat * 256 + (xB p).toNat = cell by omega]

/-! ### The achromatic point -/

/-- The Rec.709 weights sum to 10000, so a grey pixel's luma is its level (R85). -/
theorem lumaNum_grey (v a : Byte) : lumaNum { r := v, g := v, b := v, a := a } = 10000 * sample v := by
  simp only [lumaNum]
  omega

/-- The Rec.601 weights sum to 1000, so a grey pixel's luma is its level (R98). -/
theorem lumaNum601_grey (v a : Byte) : lumaNum601 { r := v, g := v, b := v, a := a } = 1000 * sample v := by
  simp only [lumaNum601]
  omega

/-- Policy A sends DU = DV = 0 to cell (128, 128) (R95). -/
theorem policyACells_of_diff_eq_zero {p : Pixel} (hu : diffU p = 0) (hv : diffV p = 0) : policyACells p = [32896] :=
  policyACells_eq_singleton (by simp [xA, yA, fdiv, hu, hv])

/-- Policy B sends U = V = 0 to cell (128, 128) (R99). -/
theorem policyBCells_of_chroma_eq_zero {p : Pixel} (hu : chromaU p = 0) (hv : chromaV p = 0) :
    policyBCells p = [32896] :=
  policyBCells_eq_singleton (by simp [xB, yB, fdiv, hu, hv])

/-- Settles O37: the luma of a grey pixel is its level (`lumaNum_grey`, `lumaNum601_grey`), so every difference is 0,
and both policies send that to the centre. -/
theorem achromaticPixelsAtCentre : Obligations.AchromaticPixelsAtCentre := by
  intro v a
  have hdu : diffU { r := v, g := v, b := v, a := a } = 0 := by simp [diffU, lumaNum_grey]
  have hdv : diffV { r := v, g := v, b := v, a := a } = 0 := by simp [diffV, lumaNum_grey]
  have hcu : chromaU { r := v, g := v, b := v, a := a } = 0 := by simp [chromaU, lumaNum601_grey, fdiv]
  have hcv : chromaV { r := v, g := v, b := v, a := a } = 0 := by simp [chromaV, lumaNum601_grey, fdiv]
  exact ⟨hdu, hdv, hcu, hcv, policyACells_of_diff_eq_zero hdu hdv, policyBCells_of_chroma_eq_zero hcu hcv⟩

/-! ### The counter of one beat -/

/-- A beat whose pixel has a single counter increments that counter and changes nothing else (R118 to R120). -/
theorem Legal.exec_runBeat_counts_cell {s : State} (h : Legal s) (hs : s.seq = .run) {p : Pixel} {last : Bool}
    {i : Instr} (hd : decodeRunBeat s.actScope p last = .ok i) (hl : last = true ↔ s.k.toNat + 1 = s.n) {cell : Nat}
    (hcells : s.nextCells p = [cell]) (hroom : s.cnt.readWord cell ≠ 0xFFFFFFFF) :
    ∃ t, exec i s = .next t ∧ countedBeat s t [cell] last := by
  rw [← hcells]
  exact h.exec_runBeat_counts hs hd hl (by simpa [hcells] using hroom)

/-- Settles O28: the statement's address is that of policy A's row and column, the pixel's only counter. -/
theorem vectorscopeABeatCounts : Obligations.VectorscopeABeatCounts := by
  rintro s p last lnum cell h hs hscope hl rfl hcell hroom
  have hcells : s.nextCells p = [cell] := (s.nextCells_policyA hscope p).trans (policyACells_eq_singleton hcell)
  exact h.exec_runBeat_counts_cell hs (by rw [hscope]; rfl) hl hcells hroom

/-- Settles O29: the statement's address is that of policy B's row and column, the pixel's only counter. -/
theorem vectorscopeBBeatCounts : Obligations.VectorscopeBBeatCounts := by
  rintro s p last ynum u v cell h hs hscope hl rfl rfl rfl hcell hroom
  have hcells : s.nextCells p = [cell] := (s.nextCells_policyB hscope p).trans (policyBCells_eq_singleton hcell)
  exact h.exec_runBeat_counts_cell hs (by rw [hscope]; rfl) hl hcells hroom

end Sys2Proof.Machine
end

section
/-! The commands of a CTRL write (`43_command_interface.md` R107 to R111): each decoded and done, with everything it
leaves unchanged. -/

namespace Sys2Proof.Machine

/-! ### The priority of CMD decode (R69) -/

theorem decodeCmd_of_abort {wd : Word} (h : wd.getLsbD 1 = true) :
    decodeCmd wd = .abort (wd.getLsbD 0) (wd.getLsbD 2) (cmdScope wd) := if_pos h

theorem decodeCmd_of_none {wd : Word} (hst : wd.getLsbD 0 = false) (hab : wd.getLsbD 1 = false) :
    decodeCmd wd = .cfg (wd.getLsbD 2) (cmdScope wd) := by
  simp only [decodeCmd, hst, hab, Bool.false_eq_true, if_false]

/-! ### CFG and ABORT -/

/-- Settles O9: a word without START and ABORT decodes to CFG (`decodeCmd_of_none`), which does `State.storeCtrl`. -/
theorem cfgStoresIrqEnAndScope : Obligations.CfgStoresIrqEnAndScope :=
  ⟨fun wMax wd hst hab => (decodeReq_ctrlWrite wMax wd).trans (decodeCmd_of_none hst hab),
    fun _ _ _ => ⟨rfl, rfl⟩⟩

/-- Settles O14: ABORT comes first in CMD decode (`decodeCmd_of_abort`), and with both flags cleared `irq` is 0 whatever
IRQ_EN is. -/
theorem abortReturnsToIdle : Obligations.AbortReturnsToIdle :=
  ⟨fun wMax wd hab => (decodeReq_ctrlWrite wMax wd).trans (decodeCmd_of_abort hab),
    fun _ _ e _ => ⟨rfl, Bool.and_false e⟩⟩

/-! ### START -/

/-- Every START operation does START and answers. -/
theorem exec_start {i : Instr} {e : Bool} {c : BitVec 4} (hi : startOperands i = some (e, c)) (s : State) :
    exec i s = .next (s.start e c).writeDone := by
  cases i with
  | startHistogram _ | startWaveformLuma _ | startWaveformParade _ | startVectorscopeA _ | startVectorscopeB _
  | startInvalidScope0 _ | startInvalidScope6_7 _ _ | startInvalidScope8_15 _ _ =>
    cases hi
    rfl
  | _ => cases hi

/-- A START while BUSY is ignored (R110). -/
theorem State.start_of_busy {s : State} (hb : s.busy = true) (e : Bool) (c : BitVec 4) :
    s.start e c = { s.storeCtrl e c with startIgnored := true } := by
  obtain ⟨-, h⟩ | ⟨hfree, -⟩ | ⟨hfree, -⟩ := s.start_cases e c
  · exact h
  · simp [hb] at hfree
  · simp [hb] at hfree

/-- A START that fails its checks ends in the state of R109. -/
theorem exec_start_of_error {i : Instr} {s : State} {e : Bool} {c : BitVec 4} {x : BlockError}
    (hi : startOperands i = some (e, c)) (hb : s.busy = false) (hx : startCheck s.caps c s.width s.height = some x) :
    exec i s = .next (failedStart s e c x.code x.detail) := by
  rw [exec_start hi]
  obtain ⟨hbusy, -⟩ | ⟨-, y, hy, h⟩ | ⟨-, hnone, -⟩ := s.start_cases e c
  · simp [hb] at hbusy
  · cases hx.symm.trans hy
    rw [h]
    rfl
  · simp [hx] at hnone

/-- A START that passes its checks ends in the state of R108, with the length of R39. -/
theorem exec_start_of_valid {i : Instr} {s : State} {e : Bool} {c : BitVec 4} (hi : startOperands i = some (e, c))
    (hb : s.busy = false) (hx : startCheck s.caps c s.width s.height = none) :
    exec i s = .next (startedFrame s e c (resultWords c s.width)) := by
  rw [exec_start hi]
  obtain ⟨hbusy, -⟩ | ⟨-, y, hy, -⟩ | ⟨-, -, h⟩ := s.start_cases e c
  · simp [hb] at hbusy
  · simp [hx] at hy
  · rw [h]
    rfl

/-- Check 1 of R135, before the dimensions are looked at. -/
theorem startCheck_of_invalidScope {c : BitVec 4} (hc : c.toNat = 0 ∨ 6 ≤ c.toNat) (caps w h : Word) :
    startCheck caps c w h = some (.invalidScopeType c) := if_pos hc

/-- Settles O10: each of the five STARTs passes the checks of R135 (`startCheck_eq_none_iff`), and `Memory.clear` has
zeroed the counters of the result. -/
theorem startBeginsFrame : Obligations.StartBeginsFrame := by
  intro s e hb hw hh
  have hvalid (c : BitVec 4) (hc : 1 ≤ c.toNat ∧ c.toNat ≤ 5)
      (hfits : c.toNat = 2 ∨ c.toNat = 3 → s.width.toNat ≤ s.caps.toNat) :
      startCheck s.caps c s.width s.height = none :=
    startCheck_eq_none_iff.2 ⟨hc, Nat.pos_of_ne_zero hw, Nat.pos_of_ne_zero hh, hfits⟩
  refine ⟨?_, fun hfits => ⟨?_, ?_⟩, ?_, ?_, fun c len i hi => s.cnt.clear_readWord hi⟩
  · exact exec_start_of_valid rfl hb (hvalid 1 (by decide) (by simp))
  · exact exec_start_of_valid rfl hb (hvalid 2 (by decide) fun _ => hfits)
  · exact exec_start_of_valid rfl hb (hvalid 3 (by decide) fun _ => hfits)
  · exact exec_start_of_valid rfl hb (hvalid 4 (by decide) (by simp))
  · exact exec_start_of_valid rfl hb (hvalid 5 (by decide) (by simp))

/-- A START with a SCOPE that is no operation reports the SCOPE in DETAIL (R134). -/
theorem exec_start_of_invalidScope {i : Instr} {s : State} {e : Bool} {c : BitVec 4}
    (hi : startOperands i = some (e, c)) (hb : s.busy = false) (hc : c.toNat = 0 ∨ 6 ≤ c.toNat) :
    exec i s = .next (failedStart s e c 1 (BitVec.ofNat 8 c.toNat)) := by
  rw [BitVec.ofNat_toNat]
  exact exec_start_of_error hi hb (startCheck_of_invalidScope hc _ _ _)

/-- Settles O11: the three rows are those of check 1 (`exec_start_of_invalidScope`). -/
theorem invalidScopeStartFails : Obligations.InvalidScopeStartFails := by
  refine fun s e hb => ⟨exec_start_of_invalidScope rfl hb (.inl rfl), fun c hc => ?_, fun c hc => ?_⟩
  · have h6 : 6 ≤ c.toNat := by obtain rfl | rfl := hc <;> decide
    exact exec_start_of_invalidScope rfl hb (.inr h6)
  · exact exec_start_of_invalidScope rfl hb (.inr (by omega))

/-- Settles O13: CLEAR, RUN and DRAIN are the BUSY states (`State.busy_iff`), where START is ignored. -/
theorem startWhileBusyIsIgnored : Obligations.StartWhileBusyIsIgnored := by
  intro i s e c hi hs
  rw [exec_start hi, State.start_of_busy (s.busy_iff.2 hs)]
  rfl

end Sys2Proof.Machine
end

section
/-! Register writes that are no command, register reads (`43_command_interface.md` R112 to R115), and CLEAR_DONE
(R116). -/

namespace Sys2Proof.Machine

/-! ### Writes -/

/-- The address of a register as the statements write it. -/
theorem regAddr_eq_ofNat (off : BitVec 6) : regAddr off = BitVec.ofNat 32 (4 * off.toNat) := by
  rw [← regAddr_toNat, BitVec.ofNat_toNat, BitVec.setWidth_eq]

theorem w1c_eq_ite (bit clear : Bool) : w1c bit clear = if clear then false else bit := by
  cases clear <;> simp

theorem exec_wrStatus (d e g : Bool) (s : State) :
    exec (.wrStatus d e g) s = .next (s.clearFlags d e g).writeDone := rfl

/-- Settles O15: each flag is W1C on its own bit (`w1c_eq_ite`). -/
theorem statusWriteClearsOnes : Obligations.StatusWriteClearsOnes := by
  refine ⟨fun s d e g => ?_, decodeReq_statusWrite⟩
  simp only [exec_wrStatus, State.writeDone, State.respond, State.clearFlags, w1c_eq_ite]

/-- Settles O16: offsets 4 and 5 are WIDTH and HEIGHT (`decodeReq_regAddr`), and their operations check nothing. -/
theorem widthAndHeightWrites : Obligations.WidthAndHeightWrites :=
  fun _ wMax wd => ⟨decodeReq_regAddr wMax true 4 wd, decodeReq_regAddr wMax true 5 wd, rfl, rfl⟩

/-- Settles O17: the offset is that of a read-only or reserved register (`decodeRegWrite_of_readOnly`). -/
theorem ignoredWriteChangesNothing : Obligations.IgnoredWriteChangesNothing := by
  intro s wMax off wd hoff
  have hro : off.toNat < 2 ∨ 6 ≤ off.toNat := by
    obtain rfl | rfl | h := hoff
    · exact .inl (by decide)
    · exact .inl (by decide)
    · exact .inr h
  refine ⟨?_, rfl⟩
  rw [← regAddr_eq_ofNat, decodeReq_regAddr, if_pos rfl, decodeRegWrite_of_readOnly hro]

/-! ### The packed registers as numbers -/

/-- A field above the bits in use adds its value at its own weight. -/
theorem toNat_or_field {lo field : Word} {n : Nat} (hlo : lo.toNat < 2 ^ n) (hfield : field.toNat * 2 ^ n < 2 ^ 32) :
    (lo ||| field <<< n).toNat = lo.toNat + 2 ^ n * field.toNat := by
  rw [BitVec.toNat_or, BitVec.toNat_shiftLeft, Nat.shiftLeft_eq, Nat.mod_eq_of_lt hfield, Nat.or_comm,
    ← Nat.shiftLeft_eq, ← Nat.shiftLeft_add_eq_or_of_lt hlo, Nat.shiftLeft_eq, Nat.add_comm, Nat.mul_comm]

/-- CTRL as a number (R28). -/
theorem ctrlWord_toNat (irqEn : Bool) (scope : BitVec 4) :
    (ctrlWord irqEn scope).toNat = 16 * scope.toNat + 4 * irqEn.toNat := by
  revert irqEn scope
  decide

/-- STATUS as a number (R29). -/
theorem statusWord_toNat (seq : Seq) (doneIrq errIrq startIgnored : Bool) :
    (statusWord seq doneIrq errIrq startIgnored).toNat = seq.code.toNat + 8 * (seqBusy seq).toNat
      + 256 * doneIrq.toNat + 512 * errIrq.toNat + 1024 * startIgnored.toNat := by
  cases seq <;> revert doneIrq errIrq startIgnored <;> decide

/-- ERR as a number (R31). -/
theorem errWord_toNat (code : BitVec 4) (detail : BitVec 8) :
    (errWord code detail).toNat = code.toNat + 256 * detail.toNat := by
  have hc := code.isLt
  have hd := detail.isLt
  have hcode : (code.setWidth 32).toNat = code.toNat := BitVec.toNat_setWidth_of_le (by decide)
  have hdetail : (detail.setWidth 32).toNat = detail.toNat := BitVec.toNat_setWidth_of_le (by decide)
  unfold errWord
  rw [toNat_or_field (by omega) (by omega), hcode, hdetail]
  rfl

/-- The low half of a 64-bit register. -/
theorem toNat_lowHalf (x : DWord) : (x.extractLsb' 0 32).toNat = x.toNat % 2 ^ 32 := BitVec.extractLsb'_toNat ..

/-- The high half of a 64-bit register. -/
theorem toNat_highHalf (x : DWord) : (x.extractLsb' 32 32).toNat = x.toNat / 2 ^ 32 := by
  have := x.isLt
  rw [BitVec.extractLsb'_toNat, Nat.shiftRight_eq_div_pow]
  omega

/-! ### Reads -/

/-- A reserved offset reads 0 (R37). -/
theorem State.readReg_reserved (s : State) {off : BitVec 6} (h : 0xF ≤ off.toNat) : s.readReg off = 0 := by
  unfold State.readReg
  split
  case h_16 => rfl
  all_goals omega

/-- Settles O18: the value is that of `State.readReg`; the packed registers and the halves of the 64-bit ones are read
as numbers. -/
theorem registerReadValues : Obligations.RegisterReadValues := by
  intro s wMax off wd
  refine ⟨s.readReg off, ?decode, exec_rdReg off s, ?id, ?caps, ?ctrl, ?status, ?width, ?height, ?err, ?errIndexLow,
    ?errIndexHigh, ?cursorLow, ?cursorHigh, ?actScope, ?actWidth, ?actHeight, ?resultLen, s.readReg_reserved⟩
  case decode =>
    rw [← regAddr_eq_ofNat]
    exact decodeReq_regAddr wMax false off wd
  all_goals rintro rfl
  case ctrl => exact ctrlWord_toNat s.irqEn s.scope
  case status => exact statusWord_toNat s.seq s.doneIrq s.errIrq s.startIgnored
  case err => exact errWord_toNat s.errCode s.errDetail
  case errIndexLow => exact toNat_lowHalf s.errIndex
  case errIndexHigh => exact toNat_highHalf s.errIndex
  case cursorLow => exact toNat_lowHalf s.k
  case cursorHigh => exact toNat_highHalf s.k
  case actScope => exact BitVec.toNat_setWidth_of_le (by decide)
  case id | caps | width | height | actWidth | actHeight | resultLen => rfl

/-! ### CLEAR_DONE -/

/-- A scheduled CLEAR_DONE is the whole step. -/
theorem step_of_scheduled_clear {s : State} {ts : List Turn} (ht : s.schedule = .clear :: ts) :
    step s = .next (State.clearDone { s with rsp := none, schedule := ts }) :=
  step_of_fetch_quiet (State.fetch_scheduled ht)

/-- Settles O41, by the two cases of CLEAR_DONE. -/
theorem clearDoneEntersRun : Obligations.ClearDoneEntersRun := by
  intro s ts ht
  rw [step_of_scheduled_clear ht]
  exact ⟨fun hs => congrArg _ (if_pos hs), fun hs => congrArg _ (if_neg hs)⟩

end Sys2Proof.Machine
end

section
/-! The beats of a request (`43_command_interface.md` R118 to R121): which counters a beat in RUN may touch, which error
it raises, and a beat in DRAIN. -/

namespace Sys2Proof.Machine

/-! ### The counters of a beat -/

/-- A beat operation of RUN does the frame step with its own increment list (R118). -/
theorem exec_of_runBeat {i : Instr} {s : State} {cells : List Nat} {last : Bool}
    (h : runBeat s i = some (cells, last)) : exec i s = .next (s.frameStep cells last) := by
  cases i with
  | pixHistogram _ _ | pixWaveformLuma _ _ | pixWaveformParade _ _ | pixVectorscopeA _ _ | pixVectorscopeB _ _ =>
    cases h
    rfl
  | _ => cases h

/-- The increment list of the operation that ACT_SCOPE selects is the pixel's counters, one in each plane. -/
theorem FrameConfig.runBeat_eq {s : State} (h : FrameConfig s) {p : Pixel} {last : Bool} {i : Instr}
    (hd : decodeRunBeat s.actScope p last = .ok i) : runBeat s i = some (s.nextCells p, last) := by
  obtain e | e | e | e | e := h.scope_cases <;> rw [e] at hd <;> cases hd
  · rw [s.nextCells_histogram e]
    rfl
  · rw [s.nextCells_luma e]
    rfl
  · rw [s.nextCells_parade e]
    rfl
  · rw [s.nextCells_policyA e]
    rfl
  · rw [s.nextCells_policyB e]
    rfl

/-- A pixel has one counter in each plane. -/
theorem State.length_nextCells (s : State) (p : Pixel) : (s.nextCells p).length = s.planeCount := by
  simp [State.nextCells]

theorem FrameConfig.planeCount_range {s : State} (h : FrameConfig s) : 1 ≤ s.planeCount ∧ s.planeCount ≤ 3 := by
  obtain e | e | e | e | e := h.scope_cases
  · simp [State.planes_histogram e]
  · simp [State.planes_luma e]
  · simp [State.planes_parade e]
  · simp [State.planes_policyA e]
  · simp [State.planes_policyB e]

/-- Settles O32: the list is the pixel's counters (`FrameConfig.runBeat_eq`), which lie in different planes of the
result. -/
theorem beatCellsDistinctAndInResult : Obligations.BeatCellsDistinctAndInResult := by
  intro s b i h hs hd
  have hf := h.frame_run hs
  have hcount := hf.planeCount_range
  rw [← s.length_nextCells (pixelOfData b.data)] at hcount
  refine ⟨_, hf.runBeat_eq hd, hf.nodup_nextCells _, hcount.1, hcount.2, fun j hj => ?_⟩
  have hj := hf.nextCells_lt_cleared j hj
  exact ⟨hf.cleared ▸ hj, hj⟩

/-! ### The error of a beat -/

/-- The error that a beat in RUN raises, if it raises one, in the order of R137. -/
def State.beatError (s : State) (cells : List Nat) (last : Bool) : Option BlockError :=
  if last = true ∧ s.k.toNat + 1 < s.n then some .shortFrame
  else if last = false ∧ s.k.toNat + 1 = s.n then some .longFrame
  else if s.cnt.anyFull cells then some .counterOverflow
  else none

theorem State.beatError_shortFrame {s : State} {last : Bool} (h : last = true ∧ s.k.toNat + 1 < s.n)
    (cells : List Nat) : s.beatError cells last = some .shortFrame := if_pos h

theorem State.beatError_longFrame {s : State} {last : Bool} (h : last = false ∧ s.k.toNat + 1 = s.n)
    (cells : List Nat) : s.beatError cells last = some .longFrame := by
  rw [State.beatError, if_neg (by simp [h.1]), if_pos h]

/-- Without a framing error the counters decide (R119). -/
theorem State.beatError_of_framed {s : State} {last : Bool} (hshort : ¬(last = true ∧ s.k.toNat + 1 < s.n))
    (hlong : ¬(last = false ∧ s.k.toNat + 1 = s.n)) (cells : List Nat) :
    s.beatError cells last = if s.cnt.anyFull cells then some .counterOverflow else none := by
  rw [State.beatError, if_neg hshort, if_neg hlong]

theorem State.beatError_eq_none_iff {s : State} {cells : List Nat} {last : Bool} :
    s.beatError cells last = none ↔
      ¬(last = true ∧ s.k.toNat + 1 < s.n) ∧ ¬(last = false ∧ s.k.toNat + 1 = s.n) ∧ s.cnt.anyFull cells = false := by
  unfold State.beatError
  split
  case isTrue hshort => simp [hshort]
  split
  case isTrue hlong => simp [hlong]
  split
  case isTrue hfull => simp [hfull]
  case isFalse hshort hlong hfull => simp only [hshort, hlong, hfull, not_false_eq_true, true_and]

/-- A beat with an error does the error sequence, and none of its increments is seen (R118, R136). -/
theorem State.frameStep_of_error {s : State} (hs : s.seq = .run) {cells : List Nat} {last : Bool} {e : BlockError}
    (h : s.beatError cells last = some e) :
    s.frameStep cells last = { s with k := s.k + 1 }.raiseOnBeat e s.k last := by
  obtain ⟨hc, he⟩ | ⟨hc, he⟩ | ⟨⟨hshort, hlong, hf⟩, he⟩ | hcounted := State.frameStep_cases hs cells last
  · cases h.symm.trans (State.beatError_shortFrame hc cells)
    exact he
  · cases h.symm.trans (State.beatError_longFrame hc cells)
    exact he
  · rw [State.beatError_of_framed hshort hlong, if_pos hf] at h
    cases h
    exact he
  · have hnone : s.beatError cells last = none := by
      obtain ⟨hc, hf, -⟩ | ⟨hc, hf, -⟩ := hcounted <;>
        exact State.beatError_eq_none_iff.2 ⟨by grind, by grind, hf⟩
    cases h.symm.trans hnone

/-- A beat without an error is a pixel that is counted (R118 to R120). -/
theorem State.frameStep_of_no_error {s : State} (hs : s.seq = .run) (hk : s.k.toNat < s.n) {cells : List Nat}
    {last : Bool} (h : s.beatError cells last = none) : s.frameStep cells last = s.countPixel cells last := by
  obtain ⟨hshort, hlong, hf⟩ := State.beatError_eq_none_iff.1 h
  have hlast : last = true ↔ s.k.toNat + 1 = s.n := by grind
  exact State.frameStep_of_room hs hlast ((s.cnt.anyFull_eq_false_iff cells).1 hf)

/-- A beat operation of RUN whose beat has an error ends in the state of R136. -/
theorem exec_runBeat_of_error {i : Instr} {s : State} {cells : List Nat} {last : Bool} {e : BlockError}
    (hi : runBeat s i = some (cells, last)) (hs : s.seq = .run) (h : s.beatError cells last = some e) :
    exec i s = .next (erredBeat s e.code e.detail last) := by
  rw [exec_of_runBeat hi, State.frameStep_of_error hs h]
  rfl

/-- Settles O30: the three clauses are the errors of `State.beatError` in their order. -/
theorem beatErrorsInPriorityOrder : Obligations.BeatErrorsInPriorityOrder := by
  intro i s cells last hi hs
  refine ⟨fun hl hk => ?_, fun hl hk => ?_, fun hl hfull => ?_⟩
  · exact exec_runBeat_of_error hi hs (State.beatError_shortFrame ⟨hl, hk⟩ cells)
  · exact exec_runBeat_of_error hi hs (State.beatError_longFrame ⟨hl, hk⟩ cells)
  · have hany : s.cnt.anyFull cells = true := by simpa [Memory.anyFull] using hfull
    refine exec_runBeat_of_error (e := .counterOverflow) hi hs ?_
    rw [State.beatError_of_framed (by grind) (by grind), if_pos hany]

/-- Settles O31: the operation is `State.drainStep`, and the cursor is a 64-bit word. -/
theorem drainBeat : Obligations.DrainBeat := by
  intro s b p hs
  refine ⟨?_, rfl, rfl, BitVec.toNat_add s.k 1⟩
  rw [hs]
  rfl

end Sys2Proof.Machine
end

section
/-! What a request shows and what it depends on (`43_command_interface.md` R124, R125): no count before DONE, and nothing
but its latched configuration and its beats. -/

namespace Sys2Proof.Machine

/-! ### Counts that no response shows (R124) -/

@[simp] theorem State.frameStep_rsp (s : State) (t : List Nat) (last : Bool) : (s.frameStep t last).rsp = s.rsp := by
  rw [State.frameStep_frame]

/-- A read of the result window outside DONE is a bus error (R127), whatever the counters hold. -/
theorem rsp_rdResult_of_not_done {s t : State} {j : BitVec 30} (hs : s.seq ≠ .done)
    (h : exec (.rdResult j) s = .next t) : t.rsp = some { rdata := 0, err := true } := by
  rw [exec_rdResult_of_not_done hs] at h
  cases h
  rfl

theorem rsp_of_runBeat {i : Instr} {s t : State} {x : List Nat × Bool} (hi : runBeat s i = some x)
    (h : exec i s = .next t) : t.rsp = s.rsp := by
  rw [exec_of_runBeat hi] at h
  cases h
  exact s.frameStep_rsp _ _

/-- Settles O59: a write and a bus error answer with a constant, a register read does not look at the counters, a read
of the result window is a bus error, and a beat answers nothing. -/
theorem noCountIsReadableOutsideDone : Obligations.NoCountIsReadableOutsideDone := by
  intro i s t t' m hs h h'
  refine ⟨?_, fun j hi => rsp_rdResult_of_not_done hs (hi ▸ h)⟩
  cases i with
  | cfg _ _ | abort _ _ _ | wrStatus _ _ _ | wrWidth _ | wrHeight _ | wrIgnored _ | wrResult _ | buserrMisaligned _ _
  | buserrUnmapped _ _ | rdReg _ | pixDrain _ _
  | startHistogram _ | startWaveformLuma _ | startWaveformParade _ | startVectorscopeA _ | startVectorscopeB _
  | startInvalidScope0 _ | startInvalidScope6_7 _ _ | startInvalidScope8_15 _ _ =>
    cases h
    cases h'
    rfl
  | rdResult j =>
    have hrsp' : t'.rsp = some _ := rsp_rdResult_of_not_done (s := { s with cnt := m }) hs h'
    exact (rsp_rdResult_of_not_done hs h).trans hrsp'.symm
  | pixHistogram _ _ | pixWaveformLuma _ _ | pixWaveformParade _ _ | pixVectorscopeA _ _ | pixVectorscopeB _ _ =>
    exact (rsp_of_runBeat rfl h).trans (rsp_of_runBeat rfl h').symm

/-! ### A request depends on its configuration and its beats (R125) -/

theorem SameRequest.trans {s t u : State} (h : SameRequest s t) (h' : SameRequest t u) : SameRequest s u where
  seq_eq := h.seq_eq.trans h'.seq_eq
  k_eq := h.k_eq.trans h'.k_eq
  scope_eq := h.scope_eq.trans h'.scope_eq
  width_eq := h.width_eq.trans h'.width_eq
  height_eq := h.height_eq.trans h'.height_eq
  len_eq := h.len_eq.trans h'.len_eq
  code_eq := h.code_eq.trans h'.code_eq
  detail_eq := h.detail_eq.trans h'.detail_eq
  index_eq := h.index_eq.trans h'.index_eq
  cleared_eq := h.cleared_eq.trans h'.cleared_eq
  count_eq := fun i hi => (h.count_eq i hi).trans (h'.count_eq i (h.cleared_eq ▸ hi))

theorem SameFrame.trans {s t u : State} (h : SameFrame s t) (h' : SameFrame t u) : SameFrame s u :=
  ⟨h.toSameRequest.trans h'.toSameRequest, h.done_eq.trans h'.done_eq, h.err_eq.trans h'.err_eq⟩

/-- An event, done on both of two blocks, keeps them at the same point of the same request, and their interrupt flags as
equal as they were. -/
structure StayTogether (s s' t t' : State) : Prop where
  request : SameRequest t t'
  done : s.doneIrq = s'.doneIrq → t.doneIrq = t'.doneIrq
  err : s.errIrq = s'.errIrq → t.errIrq = t'.errIrq

theorem StayTogether.frame {s s' t t' : State} (h : StayTogether s s' t t') (hf : SameFrame s s') : SameFrame t t' :=
  ⟨h.request, h.done hf.done_eq, h.err hf.err_eq⟩

section
variable {s s' : State} (h : SameRequest s s')
include h

theorem SameRequest.n_eq : s.n = s'.n := by
  simp only [State.n, h.width_eq, h.height_eq]

theorem SameRequest.nextCells_eq (p : Pixel) : s.nextCells p = s'.nextCells p := by
  simp only [State.nextCells, State.planeWord, State.planeCount, State.planeSize, State.planeOffset, h.scope_eq,
    h.width_eq, h.k_eq]

/-- Both blocks find the same of the counters of a beat full. -/
theorem SameRequest.anyFull_eq {cells : List Nat} (hc : ∀ j ∈ cells, j < s.cnt.cleared) :
    s.cnt.anyFull cells = s'.cnt.anyFull cells := by
  rw [Bool.eq_iff_iff, Memory.anyFull, Memory.anyFull, List.any_eq_true, List.any_eq_true]
  exact exists_congr fun j => and_congr_right fun hj => by rw [h.count_eq j (hc j hj)]

theorem SameRequest.beatError_eq {cells : List Nat} (hc : ∀ j ∈ cells, j < s.cnt.cleared) (last : Bool) :
    s.beatError cells last = s'.beatError cells last := by
  simp only [State.beatError, h.k_eq, h.n_eq, h.anyFull_eq hc]

/-- The same error sets the same registers and leaves no counter specified (R136). -/
theorem SameRequest.raiseOnBeat (e : BlockError) (last : Bool) :
    StayTogether s s' ({ s with k := s.k + 1 }.raiseOnBeat e s.k last)
      ({ s' with k := s'.k + 1 }.raiseOnBeat e s'.k last) where
  request := { h with
    seq_eq := rfl
    k_eq := congrArg (· + 1) h.k_eq
    code_eq := rfl
    detail_eq := rfl
    index_eq := h.k_eq
    cleared_eq := rfl
    count_eq := fun i hi => absurd hi (Nat.not_lt_zero i) }
  done := id
  err := fun _ => rfl

theorem SameRequest.drainStep (last : Bool) : StayTogether s s' (s.drainStep last) (s'.drainStep last) where
  request := { h with
    seq_eq := by simp [h.seq_eq]
    k_eq := congrArg (· + 1) h.k_eq }
  done := id
  err := id

/-- The same pixel goes to the same counters, which held the same counts. -/
theorem SameRequest.countPixel (hl : Legal s) (hl' : Legal s') (hs : s.seq = .run) (p : Pixel) (last : Bool) :
    StayTogether s s' (s.countPixel (s.nextCells p) last) (s'.countPixel (s'.nextCells p) last) where
  request := { h with
    seq_eq := rfl
    k_eq := congrArg (· + 1) h.k_eq
    cleared_eq := by simp [State.countPixel, h.cleared_eq]
    count_eq := by
      obtain ⟨-, hcl, -, hcount, -⟩ := hl.countedBeat_countPixel hs p last
      obtain ⟨-, -, -, hcount', -⟩ := hl'.countedBeat_countPixel (h.seq_eq ▸ hs) p last
      intro i hi
      rw [hcount, hcount', h.nextCells_eq, h.count_eq i (hcl ▸ hi)] }
  done := fun hd => congrArg (· || last) hd
  err := id

/-- The frame step of the same pixel raises the same error on both blocks, or counts the pixel on both. -/
theorem SameRequest.frameStep (hl : Legal s) (hl' : Legal s') (hs : s.seq = .run) (p : Pixel) (last : Bool) :
    StayTogether s s' (s.frameStep (s.nextCells p) last) (s'.frameStep (s'.nextCells p) last) := by
  have hs' : s'.seq = .run := h.seq_eq ▸ hs
  have herr : s.beatError (s.nextCells p) last = s'.beatError (s'.nextCells p) last := by
    rw [← h.nextCells_eq]
    exact h.beatError_eq (hl.frame_run hs).nextCells_lt_cleared last
  cases hx : s.beatError (s.nextCells p) last with
  | some e =>
    rw [State.frameStep_of_error hs hx, State.frameStep_of_error hs' (herr.symm.trans hx)]
    exact h.raiseOnBeat e last
  | none =>
    rw [State.frameStep_of_no_error hs (hl.run_cursor hs) hx,
      State.frameStep_of_no_error hs' (hl'.run_cursor hs') (herr.symm.trans hx)]
    exact h.countPixel hl hl' hs p last

/-- An accepted beat, done on both blocks. -/
theorem SameRequest.exec_beat (hl : Legal s) (hl' : Legal s') {b : Beat} {i : Instr} {t t' : State}
    (hd : decodeBeat s.seq s.actScope b = .ok i) (he : exec i s = .next t) (he' : exec i s' = .next t') :
    StayTogether s s' t t' := by
  obtain ⟨hs, hd⟩ | ⟨-, rfl⟩ := decodeBeat_eq_ok hd
  · have hs' : s'.seq = .run := h.seq_eq ▸ hs
    rw [exec_of_runBeat ((hl.frame_run hs).runBeat_eq hd)] at he
    rw [exec_of_runBeat ((hl'.frame_run hs').runBeat_eq (h.scope_eq ▸ hd))] at he'
    cases he
    cases he'
    exact h.frameStep hl hl' hs _ _
  · cases he
    cases he'
    exact h.drainStep b.last

/-- CLEAR_DONE, done on both blocks (R116). -/
theorem SameRequest.clearDone : StayTogether s s' s.clearDone s'.clearDone := by
  obtain ⟨hs, e⟩ | ⟨hs, e⟩ := s.clearDone_cases
  · obtain ⟨-, e'⟩ | ⟨hs', -⟩ := s'.clearDone_cases
    · rw [e, e']
      exact ⟨{ h with seq_eq := rfl }, id, id⟩
    · exact absurd (h.seq_eq ▸ hs) hs'
  · obtain ⟨hs', -⟩ | ⟨-, e'⟩ := s'.clearDone_cases
    · exact absurd (h.seq_eq.trans hs') hs
    · rw [e, e']
      exact ⟨h, id, id⟩

end

/-- A START that enters CLEAR has passed its checks (R108). -/
theorem State.start_of_clear {s : State} (hb : s.busy = false) {e : Bool} {c : BitVec 4}
    (hs : (s.start e c).seq = .clear) : s.start e c = (s.storeCtrl e c).latch.startFrame := by
  obtain ⟨hbusy, -⟩ | ⟨-, x, -, h⟩ | ⟨-, -, h⟩ := s.start_cases e c
  · simp [hb] at hbusy
  · rw [h] at hs
    cases hs
  · exact h

/-- START writes every register of a request, from SCOPE, WIDTH and HEIGHT (R108). -/
theorem sameFrame_startFrame {s s' : State} (hw : s.width = s'.width) (hh : s.height = s'.height) (e : Bool)
    (c : BitVec 4) :
    SameFrame (s.storeCtrl e c).latch.startFrame.writeDone (s'.storeCtrl e c).latch.startFrame.writeDone where
  seq_eq := rfl
  k_eq := rfl
  scope_eq := rfl
  width_eq := hw
  height_eq := hh
  len_eq := by simp [hw]
  code_eq := rfl
  detail_eq := rfl
  index_eq := rfl
  cleared_eq := by simp [hw]
  count_eq := by
    intro i hi
    exact (Memory.clear_readWord _ hi).trans (Memory.clear_readWord _ (by simpa [hw] using hi)).symm
  done_eq := rfl
  err_eq := rfl

/-- A request that is no START and no ABORT leaves the frame as it is, but that a STATUS write may clear a flag
(R125). -/
theorem RequestEffect.same {i : Instr} {s t : State} (hr : RequestEffect s i t) (hi : startOperands i = none)
    (hab : ∀ st e c, i ≠ .abort st e c) :
    SameRequest t s ∧ ((∀ d e g, i ≠ .wrStatus d e g) → SameFrame t s) := by
  cases hr with
  | start hst => simp [hi] at hst
  | abort st e c => exact absurd rfl (hab st e c)
  | wrStatus d e g => exact ⟨{ SameRequest.refl s with }, fun hn => absurd rfl (hn d e g)⟩
  | cfg | wrWidth | wrHeight | answer => exact ⟨{ SameRequest.refl s with }, fun _ => { SameFrame.refl s with }⟩

/-- Settles O60: START writes all of the request (`sameFrame_startFrame`), a beat and CLEAR_DONE do the same on both
blocks (`SameRequest.exec_beat`, `SameRequest.clearDone`), and a request touches nothing of it (`RequestEffect.same`). -/
theorem frameDependsOnlyOnConfigAndBeats : Obligations.FrameDependsOnlyOnConfigAndBeats := by
  refine ⟨?start, ?beat, ?beatRequest, ?clear, ?host⟩
  case start =>
    intro i s s' t t' hi hb hb' hw hh he he' ht ht'
    obtain ⟨⟨e, c⟩, hi⟩ := Option.ne_none_iff_exists'.1 hi
    rw [exec_start hi] at he he'
    cases he
    cases he'
    rw [State.start_of_clear hb ht, State.start_of_clear hb' ht']
    exact sameFrame_startFrame hw hh e c
  case beat =>
    intro b i s s' t t' hl hl' h hd he he'
    exact (h.toSameRequest.exec_beat hl hl' hd he he').frame h
  case beatRequest =>
    intro b i s s' t t' hl hl' h hd he he'
    exact (h.exec_beat hl hl' hd he he').request
  case clear =>
    exact fun s s' => ⟨fun h => h.toSameRequest.clearDone.frame h, fun h => h.clearDone.request⟩
  case host =>
    intro q wMax s s' t hi hab he
    obtain ⟨hreq, hframe⟩ := (exec_decodeReq_effect he).same hi hab
    exact ⟨hreq.trans, fun h hn => (hframe hn).trans h⟩

end Sys2Proof.Machine
end

section
/-! The result readout (`44_result_readout.md`): the words of the result window (R127 to R129), the result that stays while
STATE stays DONE (R131), and the sums it satisfies (R132). -/

namespace Sys2Proof.Machine

/-! ### The result window (R127 to R129) -/

/-- Settles O19: the request reaches word i (`decodeReq_windowAddr`), which answers by STATE and RESULT_LEN. -/
theorem resultRead : Obligations.ResultRead := by
  intro s i wd
  refine ⟨fun hw hi => decodeReq_windowAddr hw hi false wd, fun hs => exec_rdResult_of_not_done hs i,
    fun hs hi => ?_, fun hs hi => ?_⟩
  · rw [exec_rdResult_of_done hs, if_pos hi]
    rfl
  · rw [exec_rdResult_of_done hs, if_neg (Nat.not_lt.2 hi)]
    rfl

/-- Settles O20: the request reaches word i (`decodeReq_windowAddr`), whose write is a bus error. -/
theorem resultWriteIsBusError : Obligations.ResultWriteIsBusError :=
  fun s i wd hw hi => ⟨decodeReq_windowAddr hw hi true wd, exec_wrResult i s⟩

/-! ### The result while STATE stays DONE (R131) -/

/-- The moves of R23 that begin in DONE. -/
theorem seqMay_done_iff (q : Seq) : seqMay .done q = true ↔ q = .done ∨ q = .clear ∨ q = .error ∨ q = .idle := by
  cases q <;> simp [seqMay]

/-- The events from `s` to `t` left the result and what describes it as they were (R131). -/
structure SameResult (s t : State) : Prop where
  cnt : t.cnt = s.cnt
  resultLen : t.resultLen = s.resultLen
  actScope : t.actScope = s.actScope
  actWidth : t.actWidth = s.actWidth
  actHeight : t.actHeight = s.actHeight

theorem SameResult.refl (s : State) : SameResult s s := ⟨rfl, rfl, rfl, rfl, rfl⟩

/-- A request that ends in DONE was no START that did anything and no ABORT, and no other request touches the result. -/
theorem RequestEffect.sameResult {i : Instr} {s t : State} (hr : RequestEffect s i t) (ht : t.seq = .done) :
    SameResult s t := by
  cases hr with
  | @start _ e c =>
    rw [State.writeDone_seq] at ht
    obtain ⟨-, he⟩ | ⟨-, _, -, he⟩ | ⟨-, -, he⟩ := s.start_cases e c <;> rw [he] at ht ⊢
    · exact { SameResult.refl s with }
    · simp at ht
    · simp at ht
  | abort => simp at ht
  | cfg | wrStatus | wrWidth | wrHeight | answer => exact { SameResult.refl s with }

/-- In DONE no beat is accepted (R44), CLEAR_DONE does nothing (R116), and a reset leaves DONE. -/
theorem EventEffect.sameResult {s t : State} (he : EventEffect s t) (hs : s.seq = .done) (ht : t.seq = .done) :
    SameResult s t := by
  cases he with
  | wait => exact SameResult.refl s
  | clearDone =>
    obtain ⟨hclear, -⟩ | ⟨-, e⟩ := s.clearDone_cases
    · simp [hs] at hclear
    · rw [e]
      exact SameResult.refl s
  | reset => simp [State.resetWith] at ht
  | request hr => exact hr.sameResult ht
  | pixel hrun => simp [hs] at hrun
  | drain hdrain => simp [hs] at hdrain

/-- Settles O55: DONE is left as R23 says (`sequencerTransitions`), and an event that stays in DONE keeps the result
(`EventEffect.sameResult`). -/
theorem resultFrozenInDone : Obligations.ResultFrozenInDone := by
  intro s t hs hst
  have hmove : seqMay .done t.seq = true := hs ▸ sequencerTransitions s t hst
  refine ((seqMay_done_iff t.seq).1 hmove).imp_left fun ht => ?_
  obtain ⟨reqs, src, sched, turns, he⟩ := step_effect hst
  have hsame := he.sameResult hs ht
  exact ⟨ht, hsame.cnt, hsame.resultLen, hsame.actScope, hsame.actWidth, hsame.actHeight⟩

/-! ### The sums of a result (R132) -/

/-- In a full raster every column holds one pixel of each row. -/
theorem columnBeats_full {w x : Nat} (hx : x < w) (h : Nat) : columnBeats (w * h) w x = h := by
  simp [columnBeats, Nat.mul_div_cancel_left h (Nat.zero_lt_of_lt hx)]

/-- Settles O52: in DONE the cursor is N, so the plane sums are N and every column of the raster is full
(`columnBeats_full`). -/
theorem doneResultSums : Obligations.DoneResultSums := by
  intro s h hp hcol hs
  have hc : s.counting = true := s.counting_iff.2 (.inr (.inr hs))
  have hk : s.k.toNat = s.actWidth.toNat * s.actHeight.toNat := h.done_cursor hs
  have hfull {x : Nat} (hx : x < s.actWidth.toNat) :
      columnBeats s.k.toNat s.actWidth.toNat x = s.actHeight.toNat := by rw [hk, columnBeats_full hx]
  rw [← hk]
  exact ⟨hp.histogram hc,
    fun e => ⟨hp.luma hc e, fun x hx => (hcol.luma hc e x hx).trans (hfull hx)⟩,
    fun e p hp3 => ⟨hp.parade hc e p hp3, fun x hx => (hcol.parade hc e p hp3 x hx).trans (hfull hx)⟩,
    hp.vectorscope hc⟩

end Sys2Proof.Machine
end

section
/-! The exceptions of `60_exceptions.md`: the checks of a START in their order (R135), and that an operation always
completes, a bus operation with a response (R142, `70_reset_and_hazards.md` R163). -/

namespace Sys2Proof.Machine

/-! ### The checks of a START (R135) -/

/-- Check 2, on a SCOPE that is an operation. -/
theorem startCheck_of_zeroWidth {c : BitVec 4} {w : Word} (hc : 1 ≤ c.toNat ∧ c.toNat ≤ 5) (hw : w.toNat = 0)
    (caps h : Word) : startCheck caps c w h = some .zeroWidth := by
  have hscope : ¬(c.toNat = 0 ∨ 6 ≤ c.toNat) := by omega
  rw [startCheck, if_neg hscope, if_pos hw]

/-- Check 3, behind check 2. -/
theorem startCheck_of_zeroHeight {c : BitVec 4} {w h : Word} (hc : 1 ≤ c.toNat ∧ c.toNat ≤ 5) (hw : w.toNat ≠ 0)
    (hh : h.toNat = 0) (caps : Word) : startCheck caps c w h = some .zeroHeight := by
  have hscope : ¬(c.toNat = 0 ∨ 6 ≤ c.toNat) := by omega
  rw [startCheck, if_neg hscope, if_neg hw, if_pos hh]

/-- Check 4, of the waveforms only. -/
theorem startCheck_of_widthExceedsCapacity {caps w h : Word} {c : BitVec 4} (hc : c.toNat = 2 ∨ c.toNat = 3)
    (hw : w.toNat ≠ 0) (hh : h.toNat ≠ 0) (hwide : caps.toNat < w.toNat) :
    startCheck caps c w h = some .widthExceedsCapacity := by
  have hscope : ¬(c.toNat = 0 ∨ 6 ≤ c.toNat) := by omega
  rw [startCheck, if_neg hscope, if_neg hw, if_neg hh, if_pos ⟨hc, hwide⟩]

theorem waveformScope_iff (c : BitVec 4) : c = 2 ∨ c = 3 ↔ c.toNat = 2 ∨ c.toNat = 3 := by
  simp [← BitVec.toNat_inj]

/-- Settles O12: each failing check answers its own error once those before it pass (`exec_start_of_error`), and a START
that passes all four begins a frame (`exec_start_of_valid`). -/
theorem startChecksInOrder : Obligations.StartChecksInOrder := by
  intro i s e c hi hb
  rw [waveformScope_iff]
  refine ⟨fun hc => ?scope, fun h1 h5 hw => ?width, fun h1 h5 hw hh => ?height, fun hc hw hh hwide => ?capacity,
    fun h1 h5 hw hh hfits => ?valid⟩
  case scope => exact exec_start_of_invalidScope hi hb (hc.imp_left fun h => congrArg BitVec.toNat h)
  case width => exact exec_start_of_error hi hb (startCheck_of_zeroWidth ⟨h1, h5⟩ hw _ _)
  case height => exact exec_start_of_error hi hb (startCheck_of_zeroHeight ⟨h1, h5⟩ hw hh _)
  case capacity => exact exec_start_of_error hi hb (startCheck_of_widthExceedsCapacity hc hw hh hwide)
  case valid =>
    have hvalid : startCheck s.caps c s.width s.height = none :=
      startCheck_eq_none_iff.2 ⟨⟨h1, h5⟩, Nat.pos_of_ne_zero hw, Nat.pos_of_ne_zero hh, hfits⟩
    exact ⟨_, exec_start_of_valid hi hb hvalid, rfl, rfl, rfl⟩

/-! ### Every operation completes (R142, R163) -/

/-- No operation faults or is refused: only the read of the result window decides between two answers, by STATE. -/
theorem exec_completes (i : Instr) (s : State) : ∃ t, exec i s = .next t := by
  cases i with
  | rdResult j =>
    by_cases hs : s.seq = .done
    · exact ⟨_, exec_rdResult_of_done hs j⟩
    · exact ⟨_, exec_rdResult_of_not_done hs j⟩
  | _ => exact ⟨_, rfl⟩

/-- A request ends with its response. -/
theorem RequestEffect.responds {i : Instr} {s t : State} (h : RequestEffect s i t) : ∃ r, t.rsp = some r := by
  cases h with
  | answer _ rdata err => exact ⟨_, State.respond_rsp s rdata err⟩
  | cfg | start | abort | wrStatus | wrWidth | wrHeight => exact ⟨_, State.writeDone_rsp _⟩

/-- Settles O24: every operation has a next state (`exec_completes`), and one that a transaction decodes to has the
effect of a request, which responds. -/
theorem everyOperationCompletes : Obligations.EveryOperationCompletes := by
  intro i s
  obtain ⟨t, ht⟩ := exec_completes i s
  refine ⟨t, ht, ?_⟩
  rintro wMax q rfl
  obtain ⟨r, hr⟩ := (exec_decodeReq_effect ht).responds
  exact hr ▸ Option.some_ne_none r

end Sys2Proof.Machine
end

section
/-! Reset, the broken handshakes, and that a run never stops (`70_reset_and_hazards.md` R151, R152, R160, R163). -/

namespace Sys2Proof.Machine

/-! ### The scheduled events that are no operation -/

/-- A scheduled Reset is the whole step. -/
theorem step_of_scheduled_reset {s : State} {ts : List Turn} {lost : Bool} (ht : s.schedule = .reset lost :: ts) :
    step s = .next (State.resetEvent { s with rsp := none, schedule := ts } lost) :=
  step_of_fetch_quiet (State.fetch_scheduled ht)

/-- Settles O42: the scheduled step is the reset event, which writes the registers of `State.resetWith` and keeps the
agents' inputs. -/
theorem resetEventResetsEverything : Obligations.ResetEventResetsEverything :=
  fun _ _ _ ht => step_of_scheduled_reset ht

/-- A fetch that gives no behaviour refuses the step. -/
theorem step_of_fetch_stop {s : State} {r : Refusal} (h : s.fetch = .stop r) : step s = .refused r := by
  simp [step, h]

/-- Settles O44: a scheduled breach is fetched as an input without behaviour. -/
theorem brokenHandshakeIsRefused : Obligations.BrokenHandshakeIsRefused :=
  fun _ _ => ⟨fun ht => step_of_fetch_stop (State.fetch_scheduled ht),
    fun ht => step_of_fetch_stop (State.fetch_scheduled ht)⟩

/-! ### Which turn is taken -/

/-- No agent breaks its handshake by the free choice (log entry 6). -/
theorem State.enabled_no_breach {s : State} {t : Turn} (h : t ∈ s.enabled) : t ≠ .hostBreach ∧ t ≠ .sourceBreach := by
  have hsub : s.enabled ⊆ [.bus, .beat, .clear] := by
    unfold State.enabled
    refine List.append_subset.2 ⟨List.append_subset.2 ⟨?_, ?_⟩, ?_⟩ <;> split <;> simp
  obtain rfl | rfl | rfl : t = .bus ∨ t = .beat ∨ t = .clear := by simpa using hsub h
  all_goals exact ⟨nofun, nofun⟩

/-- Where several events are enabled, one of them is taken (log entry 6). -/
theorem State.fetchNext_choice {s : State} {t u : Turn} {rest : List Turn} (ht : s.schedule = [])
    (he : s.enabled = t :: u :: rest) :
    ∃ v ∈ s.enabled, s.fetchNext = State.fetchTurn { s with freeTurns := s.freeTurns + 1 } v := by
  have hlt : Config.freeChoice s.freeTurns % (t :: u :: rest).length < (t :: u :: rest).length :=
    Nat.mod_lt _ (Nat.succ_pos _)
  refine ⟨(t :: u :: rest).getD (Config.freeChoice s.freeTurns % (t :: u :: rest).length) t, ?_, ?_⟩
  · rw [he, List.getD_eq_getElem _ t hlt]
    exact List.getElem_mem hlt
  · simp only [State.fetchNext, ht, he]

/-- The turn taken is one that the schedule names, or one that is enabled. -/
theorem State.fetchNext_cases (s : State) :
    s.fetchNext = .quiet s ∨
    (∃ t sched n, (t ∈ s.schedule ∨ t ∈ s.enabled) ∧
      s.fetchNext = State.fetchTurn { s with schedule := sched, freeTurns := n } t) := by
  cases ht : s.schedule with
  | cons t ts => exact .inr ⟨t, ts, s.freeTurns, .inl List.mem_cons_self, by simp only [State.fetchNext, ht]⟩
  | nil =>
    match he : s.enabled with
    | [] => exact .inl (State.fetchNext_none ht he)
    | [t] => exact .inr ⟨t, [], s.freeTurns, .inr List.mem_cons_self, ht ▸ State.fetchNext_single ht he⟩
    | t :: u :: rest =>
      obtain ⟨v, hv, hf⟩ := State.fetchNext_choice ht he
      exact .inr ⟨v, [], s.freeTurns + 1, .inr (he ▸ hv), ht ▸ hf⟩

/-! ### A legal state never stops (R163) -/

/-- In a legal RUN or DRAIN every beat selects an operation: ACT_SCOPE is 1 to 5 (R74). -/
theorem Legal.decodeBeat_ok {s : State} (h : Legal s) (hs : s.seq = .run ∨ s.seq = .drain) (b : Beat) :
    ∃ i, decodeBeat s.seq s.actScope b = .ok i := by
  obtain hs | hs := hs
  · obtain ⟨i, hi, -⟩ := (h.frame_run hs).beat_selects (pixelOfData b.data) b.last
    exact ⟨i, hs ▸ hi⟩
  · exact ⟨.pixDrain (pixelOfData b.data) b.last, by rw [hs]; rfl⟩

/-- In a legal state a beat is taken or waits. -/
theorem Legal.fetchBeat_ne_stop {s : State} (h : Legal s) (r : Refusal) : s.fetchBeat ≠ .stop r := by
  by_cases hs : s.seq = .run ∨ s.seq = .drain
  · cases hb : s.source with
    | nil => simp [State.fetchBeat, hb]
    | cons b bs =>
      obtain ⟨i, hi⟩ := h.decodeBeat_ok hs b
      simp [State.fetchBeat_of_accepted hb hi]
  · simp [State.fetchBeat_waits (not_or.1 hs)]

/-- In a legal state every turn but a breach has a meaning. -/
theorem Legal.fetchTurn_ne_stop {s : State} (h : Legal s) {t : Turn} (ht : t ≠ .hostBreach ∧ t ≠ .sourceBreach)
    (r : Refusal) : s.fetchTurn t ≠ .stop r := by
  cases t with
  | bus => obtain hb | ⟨q, rest, -, hb⟩ := s.fetchBus_cases <;> simp [State.fetchTurn, hb]
  | beat => exact h.fetchBeat_ne_stop r
  | clear | reset _ => nofun
  | hostBreach => exact absurd rfl ht.1
  | sourceBreach => exact absurd rfl ht.2

/-- A step stops only where its fetch does, for every operation completes (`exec_completes`). -/
theorem step_completes_of_fetch {s : State} (h : ∀ r, s.fetch ≠ .stop r) : ∃ t, step s = .next t := by
  cases hf : s.fetch with
  | run i s' =>
    obtain ⟨t, ht⟩ := exec_completes i s'
    exact ⟨t, (step_of_fetch_run hf).trans ht⟩
  | quiet s' => exact ⟨s', step_of_fetch_quiet hf⟩
  | stop r => exact absurd hf (h r)

/-- Settles O45: the turn taken is no breach, whether the schedule names it or the choice picks it, and the state it is
taken in is still legal. -/
theorem legalStepNeverStops : Obligations.LegalStepNeverStops := by
  intro s h hsched
  refine step_completes_of_fetch fun r => ?_
  obtain hf | ⟨t, sched, n, ht, hf⟩ := State.fetchNext_cases { s with rsp := none }
  · simp [State.fetch, hf]
  · have hlegal : Legal { s with rsp := none, schedule := sched, freeTurns := n } :=
      h.awaiting s.hostReqs s.source sched n
    rw [State.fetch, hf]
    exact hlegal.fetchTurn_ne_stop (ht.elim (hsched t) State.enabled_no_breach) r

end Sys2Proof.Machine
end
